-- ==== Sys2Proof/Word.lean ====
section
/-!
DEFINITION. The two word types of the hardware (00_scope R8, R10): bytes and 16-bit words, all unsigned bit vectors.
-/

namespace Sys2Proof

/-- An 8-bit value: a register, a memory byte, a port, an opcode byte (00_scope R8, "data width 8 bits"). -/
abbrev Byte := BitVec 8

/-- A 16-bit value: an address, a register pair, `SP` or `pc` (00_scope R8, "address width 16 bits"). -/
abbrev Word := BitVec 16

end Sys2Proof
end

