-- ==== Sys2Proof/Config.lean ====
section
/-!
DEFINITION. The parameters the spec leaves open (00_scope R9, 92_eei_decisions "Parameters left OPEN") as one record,
and the names and classes of the pins (10_state R40, R41). The values of the parameters stand in
Sys2Proof/Machine/Params.lean.
-/

namespace Sys2Proof

/-- The pins of 10_state R41, by name. -/
inductive Pin where
  | address (line : Fin 16)
  | data (line : Fin 8)
  | inte | dbin | wr | sync | wait | hlda
  | reset | hold | int | phi1 | phi2 | ready
deriving DecidableEq, Repr

/-- The two classes of 10_state R40: an output signal is write-only, an input status line is read-only. -/
inductive PinClass where
  | writeOnly
  | readOnly
deriving DecidableEq, Repr

/-- The parameters of 00_scope R9. -/
structure Config where
  /-- `FLAG_FIXED_BITS`: the value of bits 5, 3 and 1 of a packed flag byte (10_state R31). -/
  flagFixedBits : Byte
  /-- `CYCLES[op]`: the cost of each opcode byte (70_reset R300). -/
  cycles : Byte → Nat
  /-- `PIN_INDEX`: the position of each pin in the 64-bit pin field (10_state R41). -/
  pinIndex : Pin → Nat
  /-- `IMAGE`: the bytes copied into memory at construction (70_reset R291). -/
  image : List Byte
  /-- `OFFSET`: where the image is copied to (70_reset R291). -/
  offset : Nat
  /-- `COUNTER_WIDTH`: the width of `cycles` and `iter` in bits; `none` is unbounded (10_state R44, R45). -/
  counterWidth : Option Nat

end Sys2Proof
end

