-- ==== Sys2Proof/Machine/Params.lean ====
section
/-!
DEFINITION. The values of the spec's parameters: the default the spec gives each one (00_scope R9).
DESIGN CHOICE (log entries 4, 5, 7, 8, 10), unsafe: the spec leaves each of them open and shows the default taken here.
-/

namespace Sys2Proof.Machine

/-- Rows 0x to 3x of the table of 70_reset R301; an illegal byte, marked `-` there, has 0 (D24). -/
def cycleRowsLow : List (List Nat) :=
  [ [ 4, 10,  7, 5,  5,  5,  7, 4, 0, 10,  7, 5, 5, 5, 7, 4],
    [ 0, 10,  7, 5,  5,  5,  7, 4, 0, 10,  7, 5, 5, 5, 7, 4],
    [ 0, 10, 16, 5,  5,  5,  7, 4, 0, 10, 16, 5, 5, 5, 7, 4],
    [ 0, 10, 13, 5, 10, 10, 10, 4, 0, 10, 13, 5, 5, 5, 7, 4] ]

/-- Rows 4x to 7x of the table of 70_reset R301. -/
def cycleRowsMov : List (List Nat) :=
  [ [5, 5, 5, 5, 5, 5, 7, 5, 5, 5, 5, 5, 5, 5, 7, 5],
    [5, 5, 5, 5, 5, 5, 7, 5, 5, 5, 5, 5, 5, 5, 7, 5],
    [5, 5, 5, 5, 5, 5, 7, 5, 5, 5, 5, 5, 5, 5, 7, 5],
    [7, 7, 7, 7, 7, 7, 7, 7, 5, 5, 5, 5, 5, 5, 7, 5] ]

/-- Rows 8x to Bx of the table of 70_reset R301. -/
def cycleRowsAlu : List (List Nat) :=
  [ [4, 4, 4, 4, 4, 4, 7, 4, 4, 4, 4, 4, 4, 4, 7, 4],
    [4, 4, 4, 4, 4, 4, 7, 4, 4, 4, 4, 4, 4, 4, 7, 4],
    [4, 4, 4, 4, 4, 4, 7, 4, 4, 4, 4, 4, 4, 4, 7, 4],
    [4, 4, 4, 4, 4, 4, 7, 4, 4, 4, 4, 4, 4, 4, 7, 4] ]

/-- Rows Cx to Fx of the table of 70_reset R301. -/
def cycleRowsHigh : List (List Nat) :=
  [ [11, 10, 10, 10, 17, 11, 7, 11, 11, 10, 10,  0, 17, 17, 7, 11],
    [11, 10, 10, 10, 17, 11, 7, 11, 11,  0, 10, 10, 17,  0, 7, 11],
    [11, 10, 10, 18, 17, 11, 7, 11, 11,  5, 10,  4, 17,  0, 7, 11],
    [11, 10, 10,  4, 17, 11, 7, 11, 11,  5, 10,  4, 17,  0, 7, 11] ]

/-- `CYCLES[op]` of 70_reset R301: row = high nibble of `op`, column = low nibble. -/
def cycleTable (op : Byte) : Nat :=
  ((cycleRowsLow ++ cycleRowsMov ++ cycleRowsAlu ++ cycleRowsHigh).getD (op.toNat / 16) []).getD (op.toNat % 16) 0

/-- The default `PIN_INDEX`: the layout of 10_state R41. -/
def pinLayout : Pin → Nat
  | .address line => line
  | .data line => 16 + line
  | .inte => 24 | .dbin => 25 | .wr => 26 | .sync => 27 | .wait => 28 | .hlda => 29
  | .reset => 30 | .hold => 31 | .int => 32 | .phi1 => 33 | .phi2 => 34 | .ready => 35

/-- The defaults of 00_scope R9. -/
def config : Config where
  flagFixedBits := 0b00000010#8
  cycles := cycleTable
  pinIndex := pinLayout
  image := []
  offset := 0
  counterWidth := none

end Sys2Proof.Machine
end

