-- ==== Sys2Proof/Syntax.lean ====
section
/-!
DEFINITION. The instructions of the hardware as syntax: one constructor of `Instr` for each of the 105 rows of
spec/opcode_table.json (93 legal forms, 12 `ILLEGAL` bytes), and the operand names of 30_encoding R100 to R105.
-/

namespace Sys2Proof

/-- The 3-bit register selector (30_encoding R100): the seven 8-bit registers, and `m`, the memory byte at `HL`. -/
inductive Reg8 where
  | b | c | d | e | h | l | m | a
deriving DecidableEq, Repr

/-- The 2-bit pair selector (30_encoding R102), named by the 16-bit value it selects. -/
inductive Pair where
  | bc | de | hl | sp
deriving DecidableEq, Repr

/-- The 3-bit condition field (30_encoding R105, 44_branch R210). -/
inductive Cond where
  | nz | z | nc | c | po | pe | p | m
deriving DecidableEq, Repr

/-- One constructor per row of spec/opcode_table.json, in the table's order. Names ending in `R` take a register,
names ending in `M` take the memory byte at `HL`. Immediates: `d8`, `p8` are `b2`; `d16`, `a16` are `b3:b2`. -/
inductive Instr where
  | nop
  | lxi (rp : Pair) (d16 : Word)
  | stax (rp : Pair)
  | ldax (rp : Pair)
  | shld (a16 : Word)
  | lhld (a16 : Word)
  | sta (a16 : Word)
  | lda (a16 : Word)
  | inx (rp : Pair)
  | dcx (rp : Pair)
  | dad (rp : Pair)
  | inrR (r : Reg8)
  | inrM
  | dcrR (r : Reg8)
  | dcrM
  | mviR (r : Reg8) (d8 : Byte)
  | mviM (d8 : Byte)
  | rlc
  | rrc
  | ral
  | rar
  | daa
  | cma
  | stc
  | cmc
  | movRR (dst src : Reg8)
  | movRM (dst : Reg8)
  | movMR (src : Reg8)
  | hlt
  | addR (r : Reg8)
  | addM
  | adcR (r : Reg8)
  | adcM
  | subR (r : Reg8)
  | subM
  | sbbR (r : Reg8)
  | sbbM
  | anaR (r : Reg8)
  | anaM
  | xraR (r : Reg8)
  | xraM
  | oraR (r : Reg8)
  | oraM
  | cmpR (r : Reg8)
  | cmpM
  | adi (d8 : Byte)
  | aci (d8 : Byte)
  | sui (d8 : Byte)
  | sbi (d8 : Byte)
  | ani (d8 : Byte)
  | xri (d8 : Byte)
  | ori (d8 : Byte)
  | cpi (d8 : Byte)
  | rnz
  | jnz (a16 : Word)
  | cnz (a16 : Word)
  | rz
  | jz (a16 : Word)
  | cz (a16 : Word)
  | rnc
  | jnc (a16 : Word)
  | cnc (a16 : Word)
  | rc
  | jc (a16 : Word)
  | cc (a16 : Word)
  | rpo
  | jpo (a16 : Word)
  | cpo (a16 : Word)
  | rpe
  | jpe (a16 : Word)
  | cpe (a16 : Word)
  | rp
  | jp (a16 : Word)
  | cp (a16 : Word)
  | rm
  | jm (a16 : Word)
  | cm (a16 : Word)
  | pop (rp : Pair)
  | popPsw
  | push (rp : Pair)
  | pushPsw
  | ret
  | pchl
  | sphl
  | jmp (a16 : Word)
  | call (a16 : Word)
  | outPort (p8 : Byte)
  | inPort (p8 : Byte)
  | xthl
  | xchg
  | di
  | ei
  | rst (n : BitVec 3)
  | illegal08
  | illegal10
  | illegal18
  | illegal20
  | illegal28
  | illegal30
  | illegal38
  | illegalCB
  | illegalD9
  | illegalDD
  | illegalED
  | illegalFD
deriving DecidableEq, Repr

end Sys2Proof
end

