-- ==== Sys2Proof/WellFormed.lean ====
section
/-!
DEFINITION. Which terms of `Instr` are instructions of the hardware: the restrictions on a selector that a row of
spec/opcode_table.json states (`ddd != 110`, `rp` in `B`, `D`, ...). A restricted selector's other values are other
rows of the table (30_encoding R102, R103, R109), so no encoding is lost by them.
-/

namespace Sys2Proof

/-- A register form: its selector is not `110`, which is the row's `M` form (41_data_transfer R150: "codes 0 to 5 and 7"). -/
def Reg8.isRegister (r : Reg8) : Bool := decide (r ≠ .m)

/-- `LDAX`, `STAX`: "`rp` in {`B`, `D`} only" (41_data_transfer R160, R161). -/
def Pair.isPointer (rp : Pair) : Bool := decide (rp = .bc ∨ rp = .de)

/-- `PUSH rp`, `POP rp`: code 3 is `PSW`, a row of its own (30_encoding R103; 45_stack R240, R242). -/
def Pair.isStackable (rp : Pair) : Bool := decide (rp ≠ .sp)

/-- The selector checks of every row of the opcode table. -/
def Instr.wellFormed : Instr → Bool
  | .stax pair | .ldax pair => pair.isPointer
  | .pop pair | .push pair => pair.isStackable
  | .movRR dst src => dst.isRegister && src.isRegister
  | .inrR r | .dcrR r | .mviR r _ | .movRM r | .movMR r => r.isRegister
  | .addR r | .adcR r | .subR r | .sbbR r | .anaR r | .xraR r | .oraR r | .cmpR r => r.isRegister
  | .nop | .lxi _ _ | .shld _ | .lhld _ | .sta _ | .lda _ | .inx _ | .dcx _ | .dad _ => true
  | .inrM | .dcrM | .mviM _ | .rlc | .rrc | .ral | .rar | .daa | .cma | .stc | .cmc | .hlt => true
  | .addM | .adcM | .subM | .sbbM | .anaM | .xraM | .oraM | .cmpM => true
  | .adi _ | .aci _ | .sui _ | .sbi _ | .ani _ | .xri _ | .ori _ | .cpi _ => true
  | .rnz | .jnz _ | .cnz _ | .rz | .jz _ | .cz _ | .rnc | .jnc _ | .cnc _ | .rc | .jc _ | .cc _ => true
  | .rpo | .jpo _ | .cpo _ | .rpe | .jpe _ | .cpe _ | .rp | .jp _ | .cp _ | .rm | .jm _ | .cm _ => true
  | .popPsw | .pushPsw | .ret | .pchl | .sphl | .jmp _ | .call _ | .outPort _ | .inPort _ => true
  | .xthl | .xchg | .di | .ei | .rst _ => true
  | .illegal08 | .illegal10 | .illegal18 | .illegal20 | .illegal28 | .illegal30 | .illegal38 => true
  | .illegalCB | .illegalD9 | .illegalDD | .illegalED | .illegalFD => true

end Sys2Proof
end

