-- ==== Sys2Proof/Decode.lean ====
section
/-!
DEFINITION. The decoder (30_encoding): the byte-order and bit-field helpers, the opcode byte to instruction map of
R109, the length of an instruction (R98) and its cost (R93), and the encoder. Every opcode byte decodes: the twelve
illegal bytes of R110 are instructions of their own here, whose effect is the fault of 60_exceptions R262. The only
rejections are those of a byte list that ends inside an instruction.
-/

namespace Sys2Proof

/-! ## Byte order -/

/-- `high:low`, the 16-bit value `(high << 8) | low` (00_scope R10). -/
def joinBytes (high low : Byte) : Word := high ++ low

/-- `v[15:8]` (00_scope R10, 10_state R22). -/
def highByte (v : Word) : Byte := v.extractLsb' 8 8

/-- `v[7:0]` (00_scope R10, 10_state R22). -/
def lowByte (v : Word) : Byte := v.extractLsb' 0 8

/-! ## The fields of an opcode byte (30_encoding R96) -/

/-- `g` = `op[7:6]`, the group (R97). -/
def opGroup (op : Byte) : BitVec 2 := op.extractLsb' 6 2

/-- `op[5:3]`: `ddd`, `ccc`, `nnn` or `aaa`. -/
def opMiddle (op : Byte) : BitVec 3 := op.extractLsb' 3 3

/-- `sss` = `op[2:0]`. -/
def opLow (op : Byte) : BitVec 3 := op.extractLsb' 0 3

/-- `rp` = `op[5:4]`. -/
def opPair (op : Byte) : BitVec 2 := op.extractLsb' 4 2

/-- `x` = `op[3]`. -/
def opX (op : Byte) : Bool := op.getLsbD 3

/-! ## Selector codes (30_encoding R100, R102, R105) -/

/-- R100, the selector's register. -/
def Reg8.ofCode (i : BitVec 3) : Reg8 :=
  match i.toNat with
  | 0 => .b
  | 1 => .c
  | 2 => .d
  | 3 => .e
  | 4 => .h
  | 5 => .l
  | 6 => .m
  | _ => .a

/-- R100, the register's code. -/
def Reg8.code : Reg8 → BitVec 3
  | .b => 0b000#3
  | .c => 0b001#3
  | .d => 0b010#3
  | .e => 0b011#3
  | .h => 0b100#3
  | .l => 0b101#3
  | .m => 0b110#3
  | .a => 0b111#3

/-- R102, the selector's pair. -/
def Pair.ofCode (i : BitVec 2) : Pair :=
  match i.toNat with
  | 0 => .bc
  | 1 => .de
  | 2 => .hl
  | _ => .sp

/-- R102, the pair's code. -/
def Pair.code : Pair → BitVec 2
  | .bc => 0b00#2
  | .de => 0b01#2
  | .hl => 0b10#2
  | .sp => 0b11#2

/-! ## The decision procedure of 30_encoding R109 -/

/-- Group `00`. -/
def decodeGroup00 (op b2 b3 : Byte) : Instr :=
  match (opLow op).toNat with
  | 0 =>
    match (opMiddle op).toNat with
    | 0 => .nop
    | 1 => .illegal08
    | 2 => .illegal10
    | 3 => .illegal18
    | 4 => .illegal20
    | 5 => .illegal28
    | 6 => .illegal30
    | _ => .illegal38
  | 1 =>
    match opX op with
    | false => .lxi (Pair.ofCode (opPair op)) (joinBytes b3 b2)
    | true => .dad (Pair.ofCode (opPair op))
  | 2 =>
    match (opMiddle op).toNat with
    | 0 => .stax .bc
    | 1 => .ldax .bc
    | 2 => .stax .de
    | 3 => .ldax .de
    | 4 => .shld (joinBytes b3 b2)
    | 5 => .lhld (joinBytes b3 b2)
    | 6 => .sta (joinBytes b3 b2)
    | _ => .lda (joinBytes b3 b2)
  | 3 =>
    match opX op with
    | false => .inx (Pair.ofCode (opPair op))
    | true => .dcx (Pair.ofCode (opPair op))
  | 4 =>
    match Reg8.ofCode (opMiddle op) with
    | .m => .inrM
    | r => .inrR r
  | 5 =>
    match Reg8.ofCode (opMiddle op) with
    | .m => .dcrM
    | r => .dcrR r
  | 6 =>
    match Reg8.ofCode (opMiddle op) with
    | .m => .mviM b2
    | r => .mviR r b2
  | _ =>
    match (opMiddle op).toNat with
    | 0 => .rlc
    | 1 => .rrc
    | 2 => .ral
    | 3 => .rar
    | 4 => .daa
    | 5 => .cma
    | 6 => .stc
    | _ => .cmc

/-- Group `01`: `MOV` in three forms, and `HLT` in the slot of `MOV M,M`. -/
def decodeGroup01 (op : Byte) : Instr :=
  match Reg8.ofCode (opMiddle op), Reg8.ofCode (opLow op) with
  | .m, .m => .hlt
  | .m, src => .movMR src
  | dst, .m => .movRM dst
  | dst, src => .movRR dst src

/-- Group `10`: the ALU operation `aaa` of R107 on `x[sss]`. -/
def decodeGroup10 (op : Byte) : Instr :=
  match (opMiddle op).toNat, Reg8.ofCode (opLow op) with
  | 0, .m => .addM
  | 0, r => .addR r
  | 1, .m => .adcM
  | 1, r => .adcR r
  | 2, .m => .subM
  | 2, r => .subR r
  | 3, .m => .sbbM
  | 3, r => .sbbR r
  | 4, .m => .anaM
  | 4, r => .anaR r
  | 5, .m => .xraM
  | 5, r => .xraR r
  | 6, .m => .oraM
  | 6, r => .oraR r
  | _, .m => .cmpM
  | _, r => .cmpR r

/-- Group `11`. -/
def decodeGroup11 (op b2 b3 : Byte) : Instr :=
  match (opLow op).toNat with
  | 0 =>
    match (opMiddle op).toNat with
    | 0 => .rnz
    | 1 => .rz
    | 2 => .rnc
    | 3 => .rc
    | 4 => .rpo
    | 5 => .rpe
    | 6 => .rp
    | _ => .rm
  | 1 =>
    match opX op, Pair.ofCode (opPair op) with
    | false, .sp => .popPsw
    | false, rp => .pop rp
    | true, .bc => .ret
    | true, .de => .illegalD9
    | true, .hl => .pchl
    | true, .sp => .sphl
  | 2 =>
    match (opMiddle op).toNat with
    | 0 => .jnz (joinBytes b3 b2)
    | 1 => .jz (joinBytes b3 b2)
    | 2 => .jnc (joinBytes b3 b2)
    | 3 => .jc (joinBytes b3 b2)
    | 4 => .jpo (joinBytes b3 b2)
    | 5 => .jpe (joinBytes b3 b2)
    | 6 => .jp (joinBytes b3 b2)
    | _ => .jm (joinBytes b3 b2)
  | 3 =>
    match (opMiddle op).toNat with
    | 0 => .jmp (joinBytes b3 b2)
    | 1 => .illegalCB
    | 2 => .outPort b2
    | 3 => .inPort b2
    | 4 => .xthl
    | 5 => .xchg
    | 6 => .di
    | _ => .ei
  | 4 =>
    match (opMiddle op).toNat with
    | 0 => .cnz (joinBytes b3 b2)
    | 1 => .cz (joinBytes b3 b2)
    | 2 => .cnc (joinBytes b3 b2)
    | 3 => .cc (joinBytes b3 b2)
    | 4 => .cpo (joinBytes b3 b2)
    | 5 => .cpe (joinBytes b3 b2)
    | 6 => .cp (joinBytes b3 b2)
    | _ => .cm (joinBytes b3 b2)
  | 5 =>
    match opX op, Pair.ofCode (opPair op) with
    | false, .sp => .pushPsw
    | false, rp => .push rp
    | true, .bc => .call (joinBytes b3 b2)
    | true, .de => .illegalDD
    | true, .hl => .illegalED
    | true, .sp => .illegalFD
  | 6 =>
    match (opMiddle op).toNat with
    | 0 => .adi b2
    | 1 => .aci b2
    | 2 => .sui b2
    | 3 => .sbi b2
    | 4 => .ani b2
    | 5 => .xri b2
    | 6 => .ori b2
    | _ => .cpi b2
  | _ => .rst (opMiddle op)

/-- The decoder (30_encoding R93, R109): a pure function of the opcode byte and the two bytes after it. -/
def decode (op b2 b3 : Byte) : Instr :=
  match (opGroup op).toNat with
  | 0 => decodeGroup00 op b2 b3
  | 1 => decodeGroup01 op
  | 2 => decodeGroup10 op
  | _ => decodeGroup11 op b2 b3

/-- `legal` of 30_encoding R93, R110: is the instruction none of the twelve illegal bytes? -/
def Instr.legal : Instr → Bool
  | .illegal08 | .illegal10 | .illegal18 | .illegal20 | .illegal28 | .illegal30 | .illegal38 => false
  | .illegalCB | .illegalD9 | .illegalDD | .illegalED | .illegalFD => false
  | .nop | .lxi _ _ | .stax _ | .ldax _ | .shld _ | .lhld _ | .sta _ | .lda _ | .inx _ | .dcx _ | .dad _ => true
  | .inrR _ | .inrM | .dcrR _ | .dcrM | .mviR _ _ | .mviM _ | .rlc | .rrc | .ral | .rar | .daa | .cma => true
  | .stc | .cmc | .movRR _ _ | .movRM _ | .movMR _ | .hlt | .addR _ | .addM | .adcR _ | .adcM | .subR _ => true
  | .subM | .sbbR _ | .sbbM | .anaR _ | .anaM | .xraR _ | .xraM | .oraR _ | .oraM | .cmpR _ | .cmpM => true
  | .adi _ | .aci _ | .sui _ | .sbi _ | .ani _ | .xri _ | .ori _ | .cpi _ | .rnz | .jnz _ | .cnz _ | .rz => true
  | .jz _ | .cz _ | .rnc | .jnc _ | .cnc _ | .rc | .jc _ | .cc _ | .rpo | .jpo _ | .cpo _ | .rpe => true
  | .jpe _ | .cpe _ | .rp | .jp _ | .cp _ | .rm | .jm _ | .cm _ | .pop _ | .popPsw | .push _ | .pushPsw => true
  | .ret | .pchl | .sphl | .jmp _ | .call _ | .outPort _ | .inPort _ | .xthl | .xchg | .di | .ei => true
  | .rst _ => true

/-! ## Length and cost -/

/-- Is the instruction 3 bytes long? The list of 30_encoding R98. -/
def hasTwoExtraBytes (op : Byte) : Bool :=
  (opGroup op = 0b00#2 && opLow op = 0b001#3 && !opX op) ||
  [0x22#8, 0x2A#8, 0x32#8, 0x3A#8, 0xC3#8, 0xCD#8].contains op ||
  (opGroup op = 0b11#2 && opLow op = 0b010#3) ||
  (opGroup op = 0b11#2 && opLow op = 0b100#3)

/-- Is the instruction 2 bytes long? The list of 30_encoding R98. -/
def hasOneExtraByte (op : Byte) : Bool :=
  (opGroup op = 0b00#2 && opLow op = 0b110#3) ||
  (opGroup op = 0b11#2 && opLow op = 0b110#3) ||
  [0xD3#8, 0xDB#8].contains op

/-- The number of extra bytes, a function of the opcode byte alone (30_encoding R92, R98). -/
def extraBytes (op : Byte) : Nat :=
  if hasTwoExtraBytes op then 2 else if hasOneExtraByte op then 1 else 0

/-! ## The encoder (30_encoding R96 to R108) -/

/-- The opcode byte of an instruction. -/
def Instr.opcode : Instr → Byte
  | .nop => 0x00#8
  | .lxi pair _ => 0b00#2 ++ pair.code ++ 0b0001#4
  | .stax pair => 0b00#2 ++ pair.code ++ 0b0010#4
  | .ldax pair => 0b00#2 ++ pair.code ++ 0b1010#4
  | .shld _ => 0x22#8
  | .lhld _ => 0x2A#8
  | .sta _ => 0x32#8
  | .lda _ => 0x3A#8
  | .inx pair => 0b00#2 ++ pair.code ++ 0b0011#4
  | .dcx pair => 0b00#2 ++ pair.code ++ 0b1011#4
  | .dad pair => 0b00#2 ++ pair.code ++ 0b1001#4
  | .inrR r => 0b00#2 ++ r.code ++ 0b100#3
  | .inrM => 0x34#8
  | .dcrR r => 0b00#2 ++ r.code ++ 0b101#3
  | .dcrM => 0x35#8
  | .mviR r _ => 0b00#2 ++ r.code ++ 0b110#3
  | .mviM _ => 0x36#8
  | .rlc => 0x07#8
  | .rrc => 0x0F#8
  | .ral => 0x17#8
  | .rar => 0x1F#8
  | .daa => 0x27#8
  | .cma => 0x2F#8
  | .stc => 0x37#8
  | .cmc => 0x3F#8
  | .movRR dst src => 0b01#2 ++ dst.code ++ src.code
  | .movRM dst => 0b01#2 ++ dst.code ++ 0b110#3
  | .movMR src => 0b01110#5 ++ src.code
  | .hlt => 0x76#8
  | .addR r => 0b10000#5 ++ r.code
  | .addM => 0x86#8
  | .adcR r => 0b10001#5 ++ r.code
  | .adcM => 0x8E#8
  | .subR r => 0b10010#5 ++ r.code
  | .subM => 0x96#8
  | .sbbR r => 0b10011#5 ++ r.code
  | .sbbM => 0x9E#8
  | .anaR r => 0b10100#5 ++ r.code
  | .anaM => 0xA6#8
  | .xraR r => 0b10101#5 ++ r.code
  | .xraM => 0xAE#8
  | .oraR r => 0b10110#5 ++ r.code
  | .oraM => 0xB6#8
  | .cmpR r => 0b10111#5 ++ r.code
  | .cmpM => 0xBE#8
  | .adi _ => 0xC6#8
  | .aci _ => 0xCE#8
  | .sui _ => 0xD6#8
  | .sbi _ => 0xDE#8
  | .ani _ => 0xE6#8
  | .xri _ => 0xEE#8
  | .ori _ => 0xF6#8
  | .cpi _ => 0xFE#8
  | .rnz => 0xC0#8
  | .jnz _ => 0xC2#8
  | .cnz _ => 0xC4#8
  | .rz => 0xC8#8
  | .jz _ => 0xCA#8
  | .cz _ => 0xCC#8
  | .rnc => 0xD0#8
  | .jnc _ => 0xD2#8
  | .cnc _ => 0xD4#8
  | .rc => 0xD8#8
  | .jc _ => 0xDA#8
  | .cc _ => 0xDC#8
  | .rpo => 0xE0#8
  | .jpo _ => 0xE2#8
  | .cpo _ => 0xE4#8
  | .rpe => 0xE8#8
  | .jpe _ => 0xEA#8
  | .cpe _ => 0xEC#8
  | .rp => 0xF0#8
  | .jp _ => 0xF2#8
  | .cp _ => 0xF4#8
  | .rm => 0xF8#8
  | .jm _ => 0xFA#8
  | .cm _ => 0xFC#8
  | .pop pair => 0b11#2 ++ pair.code ++ 0b0001#4
  | .popPsw => 0xF1#8
  | .push pair => 0b11#2 ++ pair.code ++ 0b0101#4
  | .pushPsw => 0xF5#8
  | .ret => 0xC9#8
  | .pchl => 0xE9#8
  | .sphl => 0xF9#8
  | .jmp _ => 0xC3#8
  | .call _ => 0xCD#8
  | .outPort _ => 0xD3#8
  | .inPort _ => 0xDB#8
  | .xthl => 0xE3#8
  | .xchg => 0xEB#8
  | .di => 0xF3#8
  | .ei => 0xFB#8
  | .rst n => 0b11#2 ++ n ++ 0b111#3
  | .illegal08 => 0x08#8
  | .illegal10 => 0x10#8
  | .illegal18 => 0x18#8
  | .illegal20 => 0x20#8
  | .illegal28 => 0x28#8
  | .illegal30 => 0x30#8
  | .illegal38 => 0x38#8
  | .illegalCB => 0xCB#8
  | .illegalD9 => 0xD9#8
  | .illegalDD => 0xDD#8
  | .illegalED => 0xED#8
  | .illegalFD => 0xFD#8

/-- The bytes after the opcode byte: an immediate byte, or a word with its low byte first (30_encoding R104). -/
def Instr.operandBytes : Instr → List Byte
  | .lxi _ w | .shld w | .lhld w | .sta w | .lda w | .jnz w | .cnz w | .jz w | .cz w | .jnc w => [lowByte w, highByte w]
  | .cnc w | .jc w | .cc w | .jpo w | .cpo w | .jpe w | .cpe w | .jp w | .cp w | .jm w | .cm w => [lowByte w, highByte w]
  | .jmp w | .call w => [lowByte w, highByte w]
  | .mviR _ v | .mviM v | .adi v | .aci v | .sui v | .sbi v | .ani v | .xri v | .ori v | .cpi v => [v]
  | .outPort v | .inPort v => [v]
  | .nop | .stax _ | .ldax _ | .inx _ | .dcx _ | .dad _ | .inrR _ | .inrM | .dcrR _ | .dcrM | .rlc => []
  | .rrc | .ral | .rar | .daa | .cma | .stc | .cmc | .movRR _ _ | .movRM _ | .movMR _ | .hlt => []
  | .addR _ | .addM | .adcR _ | .adcM | .subR _ | .subM | .sbbR _ | .sbbM | .anaR _ | .anaM => []
  | .xraR _ | .xraM | .oraR _ | .oraM | .cmpR _ | .cmpM | .rnz | .rz | .rnc | .rc | .rpo | .rpe => []
  | .rp | .rm | .pop _ | .popPsw | .push _ | .pushPsw | .ret | .pchl | .sphl | .xthl | .xchg | .di => []
  | .ei | .rst _ | .illegal08 | .illegal10 | .illegal18 | .illegal20 | .illegal28 | .illegal30 => []
  | .illegal38 | .illegalCB | .illegalD9 | .illegalDD | .illegalED | .illegalFD => []

/-- The bytes of an instruction, as the hardware stores them from the lowest address up (20_memory R73). -/
def encode (i : Instr) : List Byte := i.opcode :: i.operandBytes

/-- The length in bytes: one, and the extra bytes of the opcode (30_encoding R92). -/
def Instr.length (i : Instr) : Nat := 1 + i.operandBytes.length

/-- `CYCLES[op]` of the instruction (30_encoding R93, 70_reset R300). -/
def Instr.cost (i : Instr) : Nat := Machine.config.cycles i.opcode

/-! ## Decoding a list of bytes -/

/-- Why a list of bytes is no instruction. -/
inductive DecodeError where
  /-- There is no opcode byte. -/
  | noOpcodeByte
  /-- The list ends before the extra bytes of this opcode. Safe: memory never ends, so `step` never meets it. -/
  | missingExtraBytes (op : Byte)
deriving DecidableEq, Repr

/-- One instruction from the front of a byte list, with the rest of the list. -/
def decodeBytes : List Byte → Except DecodeError (Instr × List Byte)
  | [] => .error .noOpcodeByte
  | op :: rest =>
    match extraBytes op, rest with
    | 0, rest => .ok (decode op 0 0, rest)
    | 1, b2 :: rest => .ok (decode op b2 0, rest)
    | _ + 2, b2 :: b3 :: rest => .ok (decode op b2 b3, rest)
    | _, _ => .error (.missingExtraBytes op)

/-- Byte `k` of an instruction given as one number whose bit 0 is the least significant bit of its first byte; the
bits from `nbits` up are 0. -/
def tableByte (nbits w k : Nat) : Byte := BitVec.ofNat 8 ((w % 2 ^ nbits) / 2 ^ (8 * k))

/-- The instruction this decoder reads from the number `w` of `nbits` bits, laid out in three bytes from the lowest
address up; its second and third bytes are 0 above `nbits`. -/
def decodeTableWord (nbits w : Nat) : Option Instr :=
  match decodeBytes [tableByte nbits w 0, tableByte nbits w 1, tableByte nbits w 2] with
  | .ok (i, _) => some i
  | .error _ => none

end Sys2Proof
end

