-- ==== Sys2Proof/Machine/State.lean ====
section
/-!
DEFINITION. The state of the hardware as plain data (10_state), its reset value (10_state R50), and the reasons a
step can stop. The accessors and every operation stand in Sys2Proof/Machine/Ops.lean and Operands.lean.
-/

namespace Sys2Proof.Machine

/-! ## Registers, flags, pins -/

/-- The seven 8-bit cells of the register file (10_state R20, R21); `BC`, `DE`, `HL` are views of them (R22). -/
structure Regs where
  a : Byte
  b : Byte
  c : Byte
  d : Byte
  e : Byte
  h : Byte
  l : Byte
deriving DecidableEq, Repr

/-- The five flags, each an independent boolean (10_state R28). -/
structure Flags where
  z : Bool
  s : Bool
  p : Bool
  cy : Bool
  ac : Bool
deriving DecidableEq, Repr

/-- The pin field of 10_state R40, held by name (R41). CORE drives only `inte` (R42). -/
structure Pins where
  address : BitVec 16
  data : BitVec 8
  inte : Bool
  dbin : Bool
  wr : Bool
  sync : Bool
  wait : Bool
  hlda : Bool
  reset : Bool
  hold : Bool
  int : Bool
  phi1 : Bool
  phi2 : Bool
  ready : Bool
deriving DecidableEq, Repr

/-! ## The execution engine and what it reports -/

/-- The causes of an execution fault (60_exceptions R269). -/
inductive Cause where
  /-- Code 1: the opcode byte is one of the twelve illegal bytes (R262). -/
  | illegalOpcode
  /-- Code 2: an invalid register or pair selector (R263); no decoded instruction has one. -/
  | invalidSelector
deriving DecidableEq, Repr

/-- What an execution fault records for the host, fixed when the fault is raised (60_exceptions R265). -/
structure FaultRecord where
  /-- The value of `pc` at the start of the faulting step. -/
  address : Word
  /-- The opcode byte. -/
  op : Byte
  cause : Cause
  /-- The text "containing the faulting address and its disassembly". -/
  diagnostic : String
deriving DecidableEq, Repr

/-- The engine states that can be seen between steps (60_exceptions R261): `fault_pending = 1` is `faulted`.
DESIGN CHOICE (log entry 2), safe: Faulted keeps the record it reports again (R266); no instruction can read it. -/
inductive Engine where
  | ready
  | faulted (record : FaultRecord)
deriving DecidableEq, Repr

/-- What one call of `execute` reports to the host (60_exceptions R260). -/
inductive Report where
  /-- `Ok(next_offset)`. -/
  | ok (nextOffset : Nat)
  /-- `Halt`, whose `next_offset` is 0. -/
  | halt
  /-- `Fault{address, diagnostic}`, with the fields of R265. -/
  | fault (record : FaultRecord)
deriving DecidableEq, Repr

/-- Errors of the host's own calls, which are no execution faults (60_exceptions R273, R274). -/
inductive HostError where
  /-- `load_image` or construction with `offset + length > 65536` (R273). -/
  | imageLoadOverflow
  /-- `set_pin` on a read-only pin (R274, "unwritable pin"). -/
  | unwritablePin
  /-- `get_pin` on a write-only pin (R274, "unreadable pin"). -/
  | unreadablePin
deriving DecidableEq, Repr

/-! ## Memory and ports -/

/-- Bytes by address: addresses strictly rising, no byte equal to `Memory.unlisted`. -/
abbrev Memory := List Host.Cell

/-- What an address that is not listed reads as: the reset contents 0x00 of memory and of the ports (10_state R38). -/
def Memory.unlisted : Byte := 0x00#8

/-- The canonical form of a byte store with the addresses below `bound`. -/
abbrev Memory.wfBelow (bound : Nat) (m : Memory) : Prop :=
  m.Pairwise (fun x y => x.1 < y.1) ∧ ∀ cell ∈ m, cell.1 < bound ∧ cell.2 ≠ Memory.unlisted

/-- The canonical form of memory: 65,536 addresses (10_state R36). -/
abbrev Memory.wf (m : Memory) : Prop := Memory.wfBelow 65536 m

/-- The canonical form of the port space: 256 ports (10_state R37). -/
abbrev Memory.portsWf (m : Memory) : Prop := Memory.wfBelow 256 m

/-! ## The state -/

/-- The architectural state between two steps (00_scope R13, 10_state R48). -/
structure State where
  regs : Regs
  sp : Word
  pc : Word
  flags : Flags
  pins : Pins
  mem : Memory
  ports : Memory
  cycles : Nat
  iter : Nat
  engine : Engine
deriving DecidableEq, Repr

/-- `fault_pending` (10_state R46). -/
def State.faultPending (s : State) : Bool := decide (s.engine ≠ .ready)

/-- Every 8-bit register 0x00 (10_state R50). -/
def Regs.zero : Regs := ⟨0, 0, 0, 0, 0, 0, 0⟩

/-- Every flag 0 (10_state R33, R50). -/
def Flags.clear : Flags := ⟨false, false, false, false, false⟩

/-- Every pin 0 (10_state R50). -/
def Pins.low : Pins where
  address := 0
  data := 0
  inte := false
  dbin := false
  wr := false
  sync := false
  wait := false
  hlda := false
  reset := false
  hold := false
  int := false
  phi1 := false
  phi2 := false
  ready := false

/-- The machine right after construction with the empty image (10_state R50, 70_reset R291). The values of the flags,
pins, ports and counters are the spec's own decision D10: DEDUCED (log entry 6), unsafe. -/
def State.reset : State where
  regs := Regs.zero
  sp := 0x0000#16
  pc := 0x0000#16
  flags := Flags.clear
  pins := Pins.low
  mem := []
  ports := []
  cycles := 0
  iter := 0
  engine := .ready

/-! ## Why a step stops -/

/-- The one reason the machine stops with a fault. -/
inductive Fault where
  /-- Raised by `step` alone, in the engine state Faulted: the call of `execute` changes nothing and reports the
  fault of the earlier step again (60_exceptions R266). Safe: the machine stops, as the spec says. -/
  | executionFault (record : FaultRecord)
deriving DecidableEq, Repr

/-- Reasons for which the model gives an instruction no meaning. -/
inductive Refusal where
  /-- Raised by an arm of `exec` for an instruction without a meaning; no arm raises it now. Safe: nothing is claimed. -/
  | notModelled (mnemonic : String)
deriving DecidableEq, Repr

/-- The outcomes of one step of this machine. -/
abbrev Outcome := Host.Outcome State Fault Refusal

end Sys2Proof.Machine
end

