-- ==== Sys2Proof/Machine/Text.lean ====
section
/-!
DEFINITION. The text of an instruction (30_encoding R112) and the diagnostic text of a fault (60_exceptions R265). The
layout of the text is the spec's own (D16, D17): DEDUCED (log entry 19), safe: no rule of the machine depends on it.
-/

namespace Sys2Proof.Machine

/-- One upper-case hexadecimal digit. -/
def hexDigit (n : Nat) : Char :=
  (['0', '1', '2', '3', '4', '5', '6', '7'] ++ ['8', '9', 'A', 'B', 'C', 'D', 'E', 'F']).getD n '0'

/-- `0x` and two digits (R112). -/
def hexByte (v : Byte) : String := String.ofList ['0', 'x', hexDigit (v.toNat / 16), hexDigit (v.toNat % 16)]

/-- `0x` and four digits (R112). -/
def hexWord (v : Word) : String :=
  String.ofList ['0', 'x', hexDigit (v.toNat / 4096), hexDigit (v.toNat / 256 % 16),
    hexDigit (v.toNat / 16 % 16), hexDigit (v.toNat % 16)]

/-- The name of a register operand (R112). -/
def registerName : Reg8 → String
  | .b => "B"
  | .c => "C"
  | .d => "D"
  | .e => "E"
  | .h => "H"
  | .l => "L"
  | .m => "M"
  | .a => "A"

/-- The name of a pair operand (R102, R112). -/
def pairName : Pair → String
  | .bc => "B"
  | .de => "D"
  | .hl => "H"
  | .sp => "SP"

/-- A mnemonic and one operand. -/
def text1 (mnemonic operand : String) : String := mnemonic ++ " " ++ operand

/-- A mnemonic and two operands. -/
def text2 (mnemonic first second : String) : String := mnemonic ++ " " ++ first ++ "," ++ second

/-- The text of an instruction; an illegal byte has the placeholder of R113. -/
def instrText : Instr → String
  | .nop => "NOP"
  | .lxi pair d16 => text2 "LXI" (pairName pair) (hexWord d16)
  | .stax pair => text1 "STAX" (pairName pair)
  | .ldax pair => text1 "LDAX" (pairName pair)
  | .shld a16 => text1 "SHLD" (hexWord a16)
  | .lhld a16 => text1 "LHLD" (hexWord a16)
  | .sta a16 => text1 "STA" (hexWord a16)
  | .lda a16 => text1 "LDA" (hexWord a16)
  | .inx pair => text1 "INX" (pairName pair)
  | .dcx pair => text1 "DCX" (pairName pair)
  | .dad pair => text1 "DAD" (pairName pair)
  | .inrR r => text1 "INR" (registerName r)
  | .inrM => text1 "INR" "M"
  | .dcrR r => text1 "DCR" (registerName r)
  | .dcrM => text1 "DCR" "M"
  | .mviR r d8 => text2 "MVI" (registerName r) (hexByte d8)
  | .mviM d8 => text2 "MVI" "M" (hexByte d8)
  | .rlc => "RLC"
  | .rrc => "RRC"
  | .ral => "RAL"
  | .rar => "RAR"
  | .daa => "DAA"
  | .cma => "CMA"
  | .stc => "STC"
  | .cmc => "CMC"
  | .movRR dst src => text2 "MOV" (registerName dst) (registerName src)
  | .movRM dst => text2 "MOV" (registerName dst) "M"
  | .movMR src => text2 "MOV" "M" (registerName src)
  | .hlt => "HLT"
  | .addR r => text1 "ADD" (registerName r)
  | .addM => text1 "ADD" "M"
  | .adcR r => text1 "ADC" (registerName r)
  | .adcM => text1 "ADC" "M"
  | .subR r => text1 "SUB" (registerName r)
  | .subM => text1 "SUB" "M"
  | .sbbR r => text1 "SBB" (registerName r)
  | .sbbM => text1 "SBB" "M"
  | .anaR r => text1 "ANA" (registerName r)
  | .anaM => text1 "ANA" "M"
  | .xraR r => text1 "XRA" (registerName r)
  | .xraM => text1 "XRA" "M"
  | .oraR r => text1 "ORA" (registerName r)
  | .oraM => text1 "ORA" "M"
  | .cmpR r => text1 "CMP" (registerName r)
  | .cmpM => text1 "CMP" "M"
  | .adi d8 => text1 "ADI" (hexByte d8)
  | .aci d8 => text1 "ACI" (hexByte d8)
  | .sui d8 => text1 "SUI" (hexByte d8)
  | .sbi d8 => text1 "SBI" (hexByte d8)
  | .ani d8 => text1 "ANI" (hexByte d8)
  | .xri d8 => text1 "XRI" (hexByte d8)
  | .ori d8 => text1 "ORI" (hexByte d8)
  | .cpi d8 => text1 "CPI" (hexByte d8)
  | .rnz => "RNZ"
  | .jnz a16 => text1 "JNZ" (hexWord a16)
  | .cnz a16 => text1 "CNZ" (hexWord a16)
  | .rz => "RZ"
  | .jz a16 => text1 "JZ" (hexWord a16)
  | .cz a16 => text1 "CZ" (hexWord a16)
  | .rnc => "RNC"
  | .jnc a16 => text1 "JNC" (hexWord a16)
  | .cnc a16 => text1 "CNC" (hexWord a16)
  | .rc => "RC"
  | .jc a16 => text1 "JC" (hexWord a16)
  | .cc a16 => text1 "CC" (hexWord a16)
  | .rpo => "RPO"
  | .jpo a16 => text1 "JPO" (hexWord a16)
  | .cpo a16 => text1 "CPO" (hexWord a16)
  | .rpe => "RPE"
  | .jpe a16 => text1 "JPE" (hexWord a16)
  | .cpe a16 => text1 "CPE" (hexWord a16)
  | .rp => "RP"
  | .jp a16 => text1 "JP" (hexWord a16)
  | .cp a16 => text1 "CP" (hexWord a16)
  | .rm => "RM"
  | .jm a16 => text1 "JM" (hexWord a16)
  | .cm a16 => text1 "CM" (hexWord a16)
  | .pop pair => text1 "POP" (pairName pair)
  | .popPsw => text1 "POP" "PSW"
  | .push pair => text1 "PUSH" (pairName pair)
  | .pushPsw => text1 "PUSH" "PSW"
  | .ret => "RET"
  | .pchl => "PCHL"
  | .sphl => "SPHL"
  | .jmp a16 => text1 "JMP" (hexWord a16)
  | .call a16 => text1 "CALL" (hexWord a16)
  | .outPort p8 => text1 "OUT" (hexByte p8)
  | .inPort p8 => text1 "IN" (hexByte p8)
  | .xthl => "XTHL"
  | .xchg => "XCHG"
  | .di => "DI"
  | .ei => "EI"
  | .rst n => text1 "RST" (String.ofList [hexDigit n.toNat])
  | .illegal08 => "NOT IMPLEMENTED"
  | .illegal10 => "NOT IMPLEMENTED"
  | .illegal18 => "NOT IMPLEMENTED"
  | .illegal20 => "NOT IMPLEMENTED"
  | .illegal28 => "NOT IMPLEMENTED"
  | .illegal30 => "NOT IMPLEMENTED"
  | .illegal38 => "NOT IMPLEMENTED"
  | .illegalCB => "NOT IMPLEMENTED"
  | .illegalD9 => "NOT IMPLEMENTED"
  | .illegalDD => "NOT IMPLEMENTED"
  | .illegalED => "NOT IMPLEMENTED"
  | .illegalFD => "NOT IMPLEMENTED"

/-- The diagnostic of a fault at an address: "the faulting address and its disassembly" (60_exceptions R265). -/
def diagnosticText (address : Word) (i : Instr) : String := hexWord address ++ ": " ++ instrText i

end Sys2Proof.Machine
end

