-- ==== Sys2Proof/Machine/Ops.lean ====
section
/-!
DEFINITION. The named operations over the state: byte stores (20_memory), the updates of one field, memory and port
access, the stack accesses, fetching an instruction's bytes (30_encoding R90), the end of a successful step
(30_encoding R94) and taking an execution fault (60_exceptions R264). The machine has no return from a fault: "There
is no return-from-trap instruction" (60_exceptions R277).
-/

namespace Sys2Proof.Machine

/-! ## Byte stores -/

/-- The byte at an address. -/
def Memory.read (m : Memory) (k : Nat) : Byte :=
  match m with
  | [] => Memory.unlisted
  | (k', v) :: rest => if k' = k then v else Memory.read rest k

/-- A list entry, unless the byte is what an unlisted address reads as. -/
def Memory.consCell (k : Nat) (v : Byte) (rest : Memory) : Memory :=
  if v = Memory.unlisted then rest else (k, v) :: rest

/-- Replaces the byte at an address and keeps the canonical form. -/
def Memory.write (m : Memory) (k : Nat) (v : Byte) : Memory :=
  match m with
  | [] => Memory.consCell k v []
  | (k', v') :: rest =>
    if k < k' then Memory.consCell k v ((k', v') :: rest)
    else if k = k' then Memory.consCell k v rest
    else (k', v') :: Memory.write rest k v

/-! ## Updates of one field -/

def State.setRegs (s : State) (r : Regs) : State := { s with regs := r }

def State.setSp (s : State) (v : Word) : State := { s with sp := v }

def State.setPc (s : State) (v : Word) : State := { s with pc := v }

def State.setFlags (s : State) (f : Flags) : State := { s with flags := f }

def State.setPins (s : State) (p : Pins) : State := { s with pins := p }

def State.setMem (s : State) (m : Memory) : State := { s with mem := m }

def State.setPorts (s : State) (m : Memory) : State := { s with ports := m }

def State.setEngine (s : State) (e : Engine) : State := { s with engine := e }

/-- The accumulator (10_state R20). -/
def State.setA (s : State) (v : Byte) : State := s.setRegs { s.regs with a := v }

/-- The carry flag alone. -/
def State.setCy (s : State) (v : Bool) : State := s.setFlags { s.flags with cy := v }

/-- The interrupt-enable pin (10_state R42). -/
def State.setInte (s : State) (v : Bool) : State := s.setPins { s.pins with inte := v }

/-! ## Register pairs (10_state R22) -/

def Regs.bc (r : Regs) : Word := joinBytes r.b r.c

def Regs.de (r : Regs) : Word := joinBytes r.d r.e

def Regs.hl (r : Regs) : Word := joinBytes r.h r.l

def Regs.setBC (r : Regs) (v : Word) : Regs := { r with b := highByte v, c := lowByte v }

def Regs.setDE (r : Regs) (v : Word) : Regs := { r with d := highByte v, e := lowByte v }

def Regs.setHL (r : Regs) (v : Word) : Regs := { r with h := highByte v, l := lowByte v }

/-! ## Memory access (20_memory R62 to R65); an address is a `Word`, so it wraps modulo 2^16 (R61) -/

/-- `MemRead(addr, 1)`. -/
def State.memRead1 (s : State) (addr : Word) : Byte := Memory.read s.mem addr.toNat

/-- `MemWrite(addr, 1, v)`. -/
def State.memWrite1 (s : State) (addr : Word) (v : Byte) : State := s.setMem (Memory.write s.mem addr.toNat v)

/-- `MemRead(addr, 2)`: low byte at `addr`, high byte at `addr + 1`. -/
def State.memRead2 (s : State) (addr : Word) : Word := joinBytes (s.memRead1 (addr + 1)) (s.memRead1 addr)

/-- `MemWrite(addr, 2, v)`: low byte at `addr`, then high byte at `addr + 1`. -/
def State.memWrite2 (s : State) (addr : Word) (v : Word) : State :=
  (s.memWrite1 addr (lowByte v)).memWrite1 (addr + 1) (highByte v)

/-! ## Port access (20_memory R70, R71) -/

/-- `PortRead(p)`. -/
def State.portRead (s : State) (p : Byte) : Byte := Memory.read s.ports p.toNat

/-- `PortWrite(p, v)`. -/
def State.portWrite (s : State) (p : Byte) (v : Byte) : State := s.setPorts (Memory.write s.ports p.toNat v)

/-! ## The stack (44_branch R220, R229; 45_stack R240, R242) -/

/-- Where a push stores its word: `SP - 2`. -/
def State.pushAddress (s : State) : Word := s.sp - 2

/-- `MemWrite(SP - 2, 2, v); SP <- SP - 2`. -/
def State.push16 (s : State) (v : Word) : State := (s.memWrite2 s.pushAddress v).setSp s.pushAddress

/-- The word a pop takes: `MemRead(SP, 2)`. -/
def State.stackTop (s : State) : Word := s.memRead2 s.sp

/-- `SP <- SP + 2`. -/
def State.dropTop (s : State) : State := s.setSp (s.sp + 2)

/-! ## Fetch (30_encoding R90) -/

/-- The three bytes `op`, `b2`, `b3` at `pc`, `pc + 1`, `pc + 2`, decoded. All are read before anything is written. -/
def State.fetch (s : State) : Instr :=
  decode (s.memRead1 s.pc) (s.memRead1 (s.pc + 1)) (s.memRead1 (s.pc + 2))

/-- Stores a list of bytes from an address up (addresses wrap). -/
def State.storeBytes (s : State) (addr : Word) (bytes : List Byte) : State :=
  match bytes with
  | [] => s
  | v :: rest => State.storeBytes (s.memWrite1 addr v) (addr + 1) rest

/-! ## The end of a step (30_encoding R92, R94) -/

/-- `npc`: the address after the instruction. -/
def State.npc (s : State) (i : Instr) : Word := s.pc + BitVec.ofNat 16 i.length

/-- A counter of a given width raised by `n`: exact when the width is unbounded (10_state R44, R45). That a bounded one
would wrap is the model's: DESIGN CHOICE (log entry 8), unsafe. -/
def addCounter (width : Option Nat) (count n : Nat) : Nat :=
  match width with
  | none => count + n
  | some bits => (count + n) % 2 ^ bits

/-- The commit of a successful step: `pc`, `cycles`, `iter`, the counters at `COUNTER_WIDTH`. -/
def State.retire (s : State) (i : Instr) (target : Word) : State :=
  { s with
    pc := target
    cycles := addCounter config.counterWidth s.cycles i.cost
    iter := addCounter config.counterWidth s.iter 1 }

/-- Ends a successful step at a target the instruction assigned. -/
def completeAt (i : Instr) (target : Word) (s : State) : Outcome := .next (s.retire i target)

/-- Ends a successful step at `npc`. -/
def complete (i : Instr) (s : State) : Outcome := completeAt i (s.npc i) s

/-! ## The execution fault (60_exceptions R262 to R266) -/

/-- What a fault of the instruction `i` at an address records (R265). -/
def faultRecord (i : Instr) (cause : Cause) (address : Word) : FaultRecord where
  address := address
  op := i.opcode
  cause := cause
  diagnostic := diagnosticText address i

/-- `raise ExecutionFault(pc, op)` by the instruction `i`: nothing changes but `fault_pending <- 1` (R264); the engine is
then Faulted and holds what it reports (R265, R266). DESIGN CHOICE (log entry 1), safe: the Faulted state is a next
state, and the machine stops with the fault at the step after it. -/
def raiseFault (i : Instr) (cause : Cause) (s : State) : Outcome :=
  .next (s.setEngine (.faulted (faultRecord i cause s.pc)))

/-- An instruction with a restricted selector: `done` is its effect; a term whose selector is not allowed raises the
cause InvalidSelector (R263), which no decoded instruction does (log entry 17). -/
def completeValid (i : Instr) (s done : State) : Outcome :=
  match i.wellFormed with
  | true => complete i done
  | false => raiseFault i .invalidSelector s

end Sys2Proof.Machine
end

