-- ==== Sys2Proof/Machine/Operands.lean ====
section
/-!
DEFINITION. The operand forms of the instruction set: the 3-bit register selector with its memory operand
(30_encoding R100, R101) and the 2-bit pair selector (R102).
-/

namespace Sys2Proof.Machine

/-- The address of the operand `M`: `HL` (30_encoding R100). -/
def State.mAddress (s : State) : Word := s.regs.hl

/-- `Reg8Read(i)`, written `x[i]` (30_encoding R100). -/
def reg8Read (r : Reg8) (s : State) : Byte :=
  match r with
  | .b => s.regs.b
  | .c => s.regs.c
  | .d => s.regs.d
  | .e => s.regs.e
  | .h => s.regs.h
  | .l => s.regs.l
  | .m => s.memRead1 s.mAddress
  | .a => s.regs.a

/-- `Reg8Write(i, v)`, written `x[i] <- v` (30_encoding R101). -/
def reg8Write (r : Reg8) (v : Byte) (s : State) : State :=
  match r with
  | .b => s.setRegs { s.regs with b := v }
  | .c => s.setRegs { s.regs with c := v }
  | .d => s.setRegs { s.regs with d := v }
  | .e => s.setRegs { s.regs with e := v }
  | .h => s.setRegs { s.regs with h := v }
  | .l => s.setRegs { s.regs with l := v }
  | .m => s.memWrite1 s.mAddress v
  | .a => s.setRegs { s.regs with a := v }

/-- `PairRead(i)`, written `rp[i]` (30_encoding R102). -/
def pairRead (pair : Pair) (s : State) : Word :=
  match pair with
  | .bc => s.regs.bc
  | .de => s.regs.de
  | .hl => s.regs.hl
  | .sp => s.sp

/-- `PairWrite(i, v)`, written `rp[i] <- v` (30_encoding R102). -/
def pairWrite (pair : Pair) (v : Word) (s : State) : State :=
  match pair with
  | .bc => s.setRegs (s.regs.setBC v)
  | .de => s.setRegs (s.regs.setDE v)
  | .hl => s.setRegs (s.regs.setHL v)
  | .sp => s.setSp v

end Sys2Proof.Machine
end

