-- ==== Sys2Proof/Machine/Flags.lean ====
section
/-!
DEFINITION. The ALU primitives and every flag computation (40_alu), the flag byte (10_state R31, R32) and the
condition codes (44_branch R210). The formulas for `Ac`, and for `Cy` on subtraction, are the spec's decisions D21 and
D22 (90_conflicts C2, C3): DEDUCED (log entry 15), unsafe.
-/

namespace Sys2Proof.Machine

/-- What a primitive returns: its result, and the five flags it leaves. -/
structure AluResult (w : Nat) where
  value : BitVec w
  flags : Flags
deriving DecidableEq, Repr

/-- A flag as a number: the carry-in of a primitive. -/
def carryIn (cin : Bool) : Nat := if cin then 1 else 0

/-- The number of 1 bits of a byte (40_alu R131). -/
def popcount (r : Byte) : Nat := ((List.range 8).map (fun i => (r.getLsbD i).toNat)).sum

/-- `P`: "population count of result byte is even" (40_alu R131). -/
def parityEven (r : Byte) : Bool := decide (popcount r % 2 = 0)

/-- The low nibble `v & 0xF`. -/
def lowNibble (v : Byte) : Nat := v.toNat % 16

/-- `ZSP(r)` (40_alu R131) beside a carry and an auxiliary carry. -/
def flagsOf (r : Byte) (cy ac : Bool) : Flags where
  z := decide (r = 0)
  s := r.getLsbD 7
  p := parityEven r
  cy := cy
  ac := ac

/-- `Add8(a, b, cin)` (40_alu R132). -/
def add8 (a b : Byte) (cin : Bool) : AluResult 8 :=
  let w := a.toNat + b.toNat + carryIn cin
  let r := BitVec.ofNat 8 w
  ⟨r, flagsOf r (decide (w > 0xFF)) (decide (lowNibble a + lowNibble b > 0xF))⟩

/-- `Sub8(a, b, cin)` (40_alu R133). -/
def sub8 (a b : Byte) (cin : Bool) : AluResult 8 :=
  let w : Int := (a.toNat : Int) - b.toNat - carryIn cin
  let r := BitVec.ofInt 8 w
  ⟨r, flagsOf r (decide (w < 0)) (decide (lowNibble a < lowNibble b))⟩

/-- `Cmp8(a, b)`: the flags of `Sub8(a, b, 0)` (40_alu R134). -/
def cmp8 (a b : Byte) : Flags := (sub8 a b false).flags

/-- A logical result: `ZSP`, with `Cy` and `Ac` cleared (40_alu R135). -/
def logical8 (r : Byte) : AluResult 8 := ⟨r, flagsOf r false false⟩

/-- `And8(a, b)` (40_alu R135). -/
def and8 (a b : Byte) : AluResult 8 := logical8 (a &&& b)

/-- `Or8(a, b)` (40_alu R136). -/
def or8 (a b : Byte) : AluResult 8 := logical8 (a ||| b)

/-- `Xor8(a, b)` (40_alu R137). -/
def xor8 (a b : Byte) : AluResult 8 := logical8 (a ^^^ b)

/-- `Add16(x, y, cin)`: the low bytes, then the high bytes with the carry of the low ones (40_alu R138). -/
def add16 (x y : Word) (cin : Bool) : AluResult 16 :=
  let lo := add8 (lowByte x) (lowByte y) cin
  let hi := add8 (highByte x) (highByte y) lo.flags.cy
  ⟨joinBytes hi.value lo.value, hi.flags⟩

/-- `Sub16(x, y, cin)` (40_alu R139); no instruction uses it. -/
def sub16 (x y : Word) (cin : Bool) : AluResult 16 :=
  let lo := sub8 (lowByte x) (lowByte y) cin
  let hi := sub8 (highByte x) (highByte y) lo.flags.cy
  ⟨joinBytes hi.value lo.value, hi.flags⟩

/-- The correction `DAA` adds to `A` (42_arithmetic R189). -/
def daaCorrection (a : Byte) (f : Flags) : Byte :=
  (if f.ac ∨ lowNibble a > 9 then 0x06#8 else 0x00#8) +
    (if f.cy ∨ a.toNat / 16 > 9 ∨ (a.toNat / 16 ≥ 9 ∧ lowNibble a > 9) then 0x60#8 else 0x00#8)

/-- The `Cy` that `DAA` leaves: 1 if the high correction was applied, else the old one (42_arithmetic R189). -/
def daaCarry (a : Byte) (f : Flags) : Bool :=
  f.cy || decide (a.toNat / 16 > 9 ∨ (a.toNat / 16 ≥ 9 ∧ lowNibble a > 9))

/-- `DAA`: the adjusted `A` and the five flags (42_arithmetic R189). -/
def daa8 (a : Byte) (f : Flags) : AluResult 8 :=
  let r := add8 a (daaCorrection a f) false
  ⟨r.value, { r.flags with cy := daaCarry a f }⟩

/-- A flag as the bit `i` of a byte. -/
def flagBit (f : Bool) (i : Nat) : Byte := if f then 1#8 <<< i else 0#8

/-- `PackFlags()` for a value of `FLAG_FIXED_BITS` (10_state R31). -/
def packFlagsWith (fixed : Byte) (f : Flags) : Byte :=
  flagBit f.s 7 ||| flagBit f.z 6 ||| flagBit f.ac 4 ||| flagBit f.p 2 ||| flagBit f.cy 0 ||| (fixed &&& 0b00101010#8)

/-- `PackFlags()` of the machine: `FLAG_FIXED_BITS` at its default (10_state R31). DESIGN CHOICE (log entry 4), unsafe. -/
def packFlags (f : Flags) : Byte := packFlagsWith config.flagFixedBits f

/-- `UnpackFlags(v)`; bits 5, 3 and 1 are ignored (10_state R32). -/
def unpackFlags (v : Byte) : Flags where
  z := v.getLsbD 6
  s := v.getLsbD 7
  p := v.getLsbD 2
  cy := v.getLsbD 0
  ac := v.getLsbD 4

/-- `Cond(ccc)` (44_branch R210). -/
def condHolds (cond : Cond) (f : Flags) : Bool :=
  match cond with
  | .nz => !f.z
  | .z => f.z
  | .nc => !f.cy
  | .c => f.cy
  | .po => !f.p
  | .pe => f.p
  | .p => !f.s
  | .m => f.s

end Sys2Proof.Machine
end

