-- ==== Sys2Proof/Machine/Arithmetic.lean ====
section
/-!
DEFINITION. The arithmetic instructions (42_arithmetic R170 to R189). Which flags an instruction commits is the spec's decision D7:
DEDUCED (log entry 16), unsafe.
-/

namespace Sys2Proof.Machine

/-- A primitive whose result goes to `A` and whose five flags are all committed. -/
def State.commitA (s : State) (r : AluResult 8) : State := (s.setA r.value).setFlags r.flags

/-- A primitive whose result goes to `x[i]`, with every flag committed but `Cy`, which is kept (R182 to R185). -/
def State.commitKeepCy (s : State) (dst : Reg8) (r : AluResult 8) : State :=
  (reg8Write dst r.value s).setFlags { r.flags with cy := s.flags.cy }

/-- `ADD r` (R170). -/
def execAddR (r : Reg8) (s : State) : Outcome :=
  completeValid (.addR r) s (s.commitA (add8 s.regs.a (reg8Read r s) false))

/-- `ADD M` (R171). -/
def execAddM (s : State) : Outcome :=
  complete .addM (s.commitA (add8 s.regs.a (reg8Read .m s) false))

/-- `ADI d8` (R172). -/
def execAdi (d8 : Byte) (s : State) : Outcome :=
  complete (.adi d8) (s.commitA (add8 s.regs.a d8 false))

/-- `ADC r` (R173). -/
def execAdcR (r : Reg8) (s : State) : Outcome :=
  completeValid (.adcR r) s (s.commitA (add8 s.regs.a (reg8Read r s) s.flags.cy))

/-- `ADC M` (R174). -/
def execAdcM (s : State) : Outcome :=
  complete .adcM (s.commitA (add8 s.regs.a (reg8Read .m s) s.flags.cy))

/-- `ACI d8` (R175). -/
def execAci (d8 : Byte) (s : State) : Outcome :=
  complete (.aci d8) (s.commitA (add8 s.regs.a d8 s.flags.cy))

/-- `SUB r` (R176). -/
def execSubR (r : Reg8) (s : State) : Outcome :=
  completeValid (.subR r) s (s.commitA (sub8 s.regs.a (reg8Read r s) false))

/-- `SUB M` (R177). -/
def execSubM (s : State) : Outcome :=
  complete .subM (s.commitA (sub8 s.regs.a (reg8Read .m s) false))

/-- `SUI d8` (R178). -/
def execSui (d8 : Byte) (s : State) : Outcome :=
  complete (.sui d8) (s.commitA (sub8 s.regs.a d8 false))

/-- `SBB r` (R179). -/
def execSbbR (r : Reg8) (s : State) : Outcome :=
  completeValid (.sbbR r) s (s.commitA (sub8 s.regs.a (reg8Read r s) s.flags.cy))

/-- `SBB M` (R180). -/
def execSbbM (s : State) : Outcome :=
  complete .sbbM (s.commitA (sub8 s.regs.a (reg8Read .m s) s.flags.cy))

/-- `SBI d8` (R181). -/
def execSbi (d8 : Byte) (s : State) : Outcome :=
  complete (.sbi d8) (s.commitA (sub8 s.regs.a d8 s.flags.cy))

/-- `INR r` (R182). -/
def execInrR (r : Reg8) (s : State) : Outcome :=
  completeValid (.inrR r) s (s.commitKeepCy r (add8 (reg8Read r s) 1 false))

/-- `INR M` (R183). -/
def execInrM (s : State) : Outcome :=
  complete .inrM (s.commitKeepCy .m (add8 (reg8Read .m s) 1 false))

/-- `DCR r` (R184). -/
def execDcrR (r : Reg8) (s : State) : Outcome :=
  completeValid (.dcrR r) s (s.commitKeepCy r (sub8 (reg8Read r s) 1 false))

/-- `DCR M` (R185). -/
def execDcrM (s : State) : Outcome :=
  complete .dcrM (s.commitKeepCy .m (sub8 (reg8Read .m s) 1 false))

/-- `INX rp` (R186): no flag. -/
def execInx (pair : Pair) (s : State) : Outcome :=
  complete (.inx pair) (pairWrite pair (pairRead pair s + 1) s)

/-- `DCX rp` (R187): no flag. -/
def execDcx (pair : Pair) (s : State) : Outcome :=
  complete (.dcx pair) (pairWrite pair (pairRead pair s - 1) s)

/-- `DAD rp` (R188): `Add16(HL, rp, 0)` with only `Cy` committed. -/
def execDad (pair : Pair) (s : State) : Outcome :=
  complete (.dad pair)
    ((pairWrite .hl (add16 s.regs.hl (pairRead pair s) false).value s).setCy
      (add16 s.regs.hl (pairRead pair s) false).flags.cy)

/-- `DAA` (R189). -/
def execDaa (s : State) : Outcome :=
  complete .daa (s.commitA (daa8 s.regs.a s.flags))

end Sys2Proof.Machine
end

