-- ==== Sys2Proof/Machine/Branch.lean ====
section
/-!
DEFINITION. The control transfer instructions (44_branch R211 to R239, R310 to R312). None writes a flag.
-/

namespace Sys2Proof.Machine

/-- The shared rule of the conditional jumps (R310). -/
def jumpIf (i : Instr) (cond : Cond) (a16 : Word) (s : State) : Outcome :=
  if condHolds cond s.flags then completeAt i a16 s else complete i s

/-- The effect of a call: `npc` is pushed, then control goes to the target (R220). -/
def callTo (i : Instr) (target : Word) (s : State) : Outcome := completeAt i target (s.push16 (s.npc i))

/-- The shared rule of the conditional calls (R311). -/
def callIf (i : Instr) (cond : Cond) (a16 : Word) (s : State) : Outcome :=
  if condHolds cond s.flags then callTo i a16 s else complete i s

/-- The effect of a return: the word on the stack is popped into `pc` (R229). -/
def returnTo (i : Instr) (s : State) : Outcome := completeAt i s.stackTop s.dropTop

/-- The shared rule of the conditional returns (R312). -/
def returnIf (i : Instr) (cond : Cond) (s : State) : Outcome :=
  if condHolds cond s.flags then returnTo i s else complete i s

/-- `8 * nnn` (R238, 30_encoding R106). -/
def rstTarget (n : BitVec 3) : Word := n.zeroExtend 16 <<< 3

/-- `JMP a16` (R211). -/
def execJmp (a16 : Word) (s : State) : Outcome :=
  completeAt (.jmp a16) a16 s

/-- `JNZ a16` (R212). -/
def execJnz (a16 : Word) (s : State) : Outcome :=
  jumpIf (.jnz a16) .nz a16 s

/-- `JZ a16` (R213). -/
def execJz (a16 : Word) (s : State) : Outcome :=
  jumpIf (.jz a16) .z a16 s

/-- `JNC a16` (R214). -/
def execJnc (a16 : Word) (s : State) : Outcome :=
  jumpIf (.jnc a16) .nc a16 s

/-- `JC a16` (R215). -/
def execJc (a16 : Word) (s : State) : Outcome :=
  jumpIf (.jc a16) .c a16 s

/-- `JPO a16` (R216). -/
def execJpo (a16 : Word) (s : State) : Outcome :=
  jumpIf (.jpo a16) .po a16 s

/-- `JPE a16` (R217). -/
def execJpe (a16 : Word) (s : State) : Outcome :=
  jumpIf (.jpe a16) .pe a16 s

/-- `JP a16` (R218). -/
def execJp (a16 : Word) (s : State) : Outcome :=
  jumpIf (.jp a16) .p a16 s

/-- `JM a16` (R219). -/
def execJm (a16 : Word) (s : State) : Outcome :=
  jumpIf (.jm a16) .m a16 s

/-- `CALL a16` (R220). -/
def execCall (a16 : Word) (s : State) : Outcome :=
  callTo (.call a16) a16 s

/-- `CNZ a16` (R221). -/
def execCnz (a16 : Word) (s : State) : Outcome :=
  callIf (.cnz a16) .nz a16 s

/-- `CZ a16` (R222). -/
def execCz (a16 : Word) (s : State) : Outcome :=
  callIf (.cz a16) .z a16 s

/-- `CNC a16` (R223). -/
def execCnc (a16 : Word) (s : State) : Outcome :=
  callIf (.cnc a16) .nc a16 s

/-- `CC a16` (R224). -/
def execCc (a16 : Word) (s : State) : Outcome :=
  callIf (.cc a16) .c a16 s

/-- `CPO a16` (R225). -/
def execCpo (a16 : Word) (s : State) : Outcome :=
  callIf (.cpo a16) .po a16 s

/-- `CPE a16` (R226). -/
def execCpe (a16 : Word) (s : State) : Outcome :=
  callIf (.cpe a16) .pe a16 s

/-- `CP a16` (R227). -/
def execCp (a16 : Word) (s : State) : Outcome :=
  callIf (.cp a16) .p a16 s

/-- `CM a16` (R228). -/
def execCm (a16 : Word) (s : State) : Outcome :=
  callIf (.cm a16) .m a16 s

/-- `RET` (R229). -/
def execRet (s : State) : Outcome :=
  returnTo .ret s

/-- `RNZ` (R230). -/
def execRnz (s : State) : Outcome :=
  returnIf .rnz .nz s

/-- `RZ` (R231). -/
def execRz (s : State) : Outcome :=
  returnIf .rz .z s

/-- `RNC` (R232). -/
def execRnc (s : State) : Outcome :=
  returnIf .rnc .nc s

/-- `RC` (R233). -/
def execRc (s : State) : Outcome :=
  returnIf .rc .c s

/-- `RPO` (R234). -/
def execRpo (s : State) : Outcome :=
  returnIf .rpo .po s

/-- `RPE` (R235). -/
def execRpe (s : State) : Outcome :=
  returnIf .rpe .pe s

/-- `RP` (R236). -/
def execRp (s : State) : Outcome :=
  returnIf .rp .p s

/-- `RM` (R237). -/
def execRm (s : State) : Outcome :=
  returnIf .rm .m s

/-- `RST n` (R238). -/
def execRst (n : BitVec 3) (s : State) : Outcome :=
  callTo (.rst n) (rstTarget n) s

/-- `PCHL` (R239). -/
def execPchl (s : State) : Outcome :=
  completeAt .pchl s.regs.hl s

end Sys2Proof.Machine
end

