-- ==== Sys2Proof/Machine/DataTransfer.lean ====
section
/-!
DEFINITION. The data transfer instructions (41_data_transfer R150 to R162). None writes a flag.
-/

namespace Sys2Proof.Machine

/-- `MOV r1,r2` (R150). -/
def execMovRR (dst src : Reg8) (s : State) : Outcome :=
  completeValid (.movRR dst src) s (reg8Write dst (reg8Read src s) s)

/-- `MOV r,M` (R151). -/
def execMovRM (dst : Reg8) (s : State) : Outcome :=
  completeValid (.movRM dst) s (reg8Write dst (reg8Read .m s) s)

/-- `MOV M,r` (R152). -/
def execMovMR (src : Reg8) (s : State) : Outcome :=
  completeValid (.movMR src) s (reg8Write .m (reg8Read src s) s)

/-- `MVI r,d8` (R153). -/
def execMviR (r : Reg8) (d8 : Byte) (s : State) : Outcome :=
  completeValid (.mviR r d8) s (reg8Write r d8 s)

/-- `MVI M,d8` (R154). -/
def execMviM (d8 : Byte) (s : State) : Outcome :=
  complete (.mviM d8) (reg8Write .m d8 s)

/-- `LXI rp,d16` (R155). -/
def execLxi (pair : Pair) (d16 : Word) (s : State) : Outcome :=
  complete (.lxi pair d16) (pairWrite pair d16 s)

/-- `LDA a16` (R156). -/
def execLda (a16 : Word) (s : State) : Outcome :=
  complete (.lda a16) (s.setA (s.memRead1 a16))

/-- `STA a16` (R157). -/
def execSta (a16 : Word) (s : State) : Outcome :=
  complete (.sta a16) (s.memWrite1 a16 s.regs.a)

/-- `LHLD a16` (R158). -/
def execLhld (a16 : Word) (s : State) : Outcome :=
  complete (.lhld a16) (pairWrite .hl (s.memRead2 a16) s)

/-- `SHLD a16` (R159). -/
def execShld (a16 : Word) (s : State) : Outcome :=
  complete (.shld a16) (s.memWrite2 a16 s.regs.hl)

/-- `LDAX rp` (R160). -/
def execLdax (pair : Pair) (s : State) : Outcome :=
  completeValid (.ldax pair) s (s.setA (s.memRead1 (pairRead pair s)))

/-- `STAX rp` (R161). -/
def execStax (pair : Pair) (s : State) : Outcome :=
  completeValid (.stax pair) s (s.memWrite1 (pairRead pair s) s.regs.a)

/-- `XCHG` (R162). -/
def execXchg (s : State) : Outcome :=
  complete .xchg (pairWrite .de (pairRead .hl s) (pairWrite .hl (pairRead .de s) s))

end Sys2Proof.Machine
end

