-- ==== Sys2Proof/Machine/Illegal.lean ====
section
/-!
DEFINITION. The twelve illegal opcode bytes (60_exceptions R262, 30_encoding R110): each takes the execution fault. Which bytes are
illegal is the spec's decision D4: DEDUCED (log entry 9), safe.
-/

namespace Sys2Proof.Machine

/-- Opcode byte 0x08 (R262). -/
def execIllegal08 (s : State) : Outcome :=
  raiseFault .illegal08 .illegalOpcode s

/-- Opcode byte 0x10 (R262). -/
def execIllegal10 (s : State) : Outcome :=
  raiseFault .illegal10 .illegalOpcode s

/-- Opcode byte 0x18 (R262). -/
def execIllegal18 (s : State) : Outcome :=
  raiseFault .illegal18 .illegalOpcode s

/-- Opcode byte 0x20 (R262). -/
def execIllegal20 (s : State) : Outcome :=
  raiseFault .illegal20 .illegalOpcode s

/-- Opcode byte 0x28 (R262). -/
def execIllegal28 (s : State) : Outcome :=
  raiseFault .illegal28 .illegalOpcode s

/-- Opcode byte 0x30 (R262). -/
def execIllegal30 (s : State) : Outcome :=
  raiseFault .illegal30 .illegalOpcode s

/-- Opcode byte 0x38 (R262). -/
def execIllegal38 (s : State) : Outcome :=
  raiseFault .illegal38 .illegalOpcode s

/-- Opcode byte 0xCB (R262). -/
def execIllegalCB (s : State) : Outcome :=
  raiseFault .illegalCB .illegalOpcode s

/-- Opcode byte 0xD9 (R262). -/
def execIllegalD9 (s : State) : Outcome :=
  raiseFault .illegalD9 .illegalOpcode s

/-- Opcode byte 0xDD (R262). -/
def execIllegalDD (s : State) : Outcome :=
  raiseFault .illegalDD .illegalOpcode s

/-- Opcode byte 0xED (R262). -/
def execIllegalED (s : State) : Outcome :=
  raiseFault .illegalED .illegalOpcode s

/-- Opcode byte 0xFD (R262). -/
def execIllegalFD (s : State) : Outcome :=
  raiseFault .illegalFD .illegalOpcode s

end Sys2Proof.Machine
end

