-- ==== Sys2Proof/Machine/Logical.lean ====
section
/-!
DEFINITION. The logical, compare, rotate and carry instructions (43_logical R190 to R208).
-/

namespace Sys2Proof.Machine

/-- `ANA r` (R190). -/
def execAnaR (r : Reg8) (s : State) : Outcome :=
  completeValid (.anaR r) s (s.commitA (and8 s.regs.a (reg8Read r s)))

/-- `ANA M` (R191). -/
def execAnaM (s : State) : Outcome :=
  complete .anaM (s.commitA (and8 s.regs.a (reg8Read .m s)))

/-- `ANI d8` (R192). -/
def execAni (d8 : Byte) (s : State) : Outcome :=
  complete (.ani d8) (s.commitA (and8 s.regs.a d8))

/-- `XRA r` (R193). -/
def execXraR (r : Reg8) (s : State) : Outcome :=
  completeValid (.xraR r) s (s.commitA (xor8 s.regs.a (reg8Read r s)))

/-- `XRA M` (R194). -/
def execXraM (s : State) : Outcome :=
  complete .xraM (s.commitA (xor8 s.regs.a (reg8Read .m s)))

/-- `XRI d8` (R195). -/
def execXri (d8 : Byte) (s : State) : Outcome :=
  complete (.xri d8) (s.commitA (xor8 s.regs.a d8))

/-- `ORA r` (R196). -/
def execOraR (r : Reg8) (s : State) : Outcome :=
  completeValid (.oraR r) s (s.commitA (or8 s.regs.a (reg8Read r s)))

/-- `ORA M` (R197). -/
def execOraM (s : State) : Outcome :=
  complete .oraM (s.commitA (or8 s.regs.a (reg8Read .m s)))

/-- `ORI d8` (R198). -/
def execOri (d8 : Byte) (s : State) : Outcome :=
  complete (.ori d8) (s.commitA (or8 s.regs.a d8))

/-- `CMP r` (R199): `A` is not written. -/
def execCmpR (r : Reg8) (s : State) : Outcome :=
  completeValid (.cmpR r) s (s.setFlags (cmp8 s.regs.a (reg8Read r s)))

/-- `CMP M` (R200). -/
def execCmpM (s : State) : Outcome :=
  complete .cmpM (s.setFlags (cmp8 s.regs.a (reg8Read .m s)))

/-- `CPI d8` (R201). -/
def execCpi (d8 : Byte) (s : State) : Outcome :=
  complete (.cpi d8) (s.setFlags (cmp8 s.regs.a d8))

/-- `A` shifted left by one with `low` in bit 0 (R202, R204). -/
def shiftLeftIn (a : Byte) (low : Bool) : Byte := (a <<< 1) ||| flagBit low 0

/-- `A` shifted right by one with `high` in bit 7 (R203, R205). -/
def shiftRightIn (a : Byte) (high : Bool) : Byte := (a >>> 1) ||| flagBit high 7

/-- `RLC` (R202). -/
def execRlc (s : State) : Outcome :=
  complete .rlc ((s.setA (shiftLeftIn s.regs.a (s.regs.a.getLsbD 7))).setCy (s.regs.a.getLsbD 7))

/-- `RRC` (R203). -/
def execRrc (s : State) : Outcome :=
  complete .rrc ((s.setA (shiftRightIn s.regs.a (s.regs.a.getLsbD 0))).setCy (s.regs.a.getLsbD 0))

/-- `RAL` (R204). -/
def execRal (s : State) : Outcome :=
  complete .ral ((s.setA (shiftLeftIn s.regs.a s.flags.cy)).setCy (s.regs.a.getLsbD 7))

/-- `RAR` (R205). -/
def execRar (s : State) : Outcome :=
  complete .rar ((s.setA (shiftRightIn s.regs.a s.flags.cy)).setCy (s.regs.a.getLsbD 0))

/-- `CMA` (R206): no flag. -/
def execCma (s : State) : Outcome :=
  complete .cma (s.setA (s.regs.a ^^^ 0xFF#8))

/-- `CMC` (R207). -/
def execCmc (s : State) : Outcome :=
  complete .cmc (s.setCy (!s.flags.cy))

/-- `STC` (R208). -/
def execStc (s : State) : Outcome :=
  complete .stc (s.setCy true)

end Sys2Proof.Machine
end

