-- ==== Sys2Proof/Machine/StackIo.lean ====
section
/-!
DEFINITION. The stack, input/output and machine control instructions (45_stack_io_control R240 to R251).
-/

namespace Sys2Proof.Machine

/-- The processor status word `A:PackFlags()` (45_stack R241, 30_encoding R103). -/
def State.psw (s : State) : Word := joinBytes s.regs.a (packFlags s.flags)

/-- `PUSH rp` (R240). -/
def execPush (pair : Pair) (s : State) : Outcome :=
  completeValid (.push pair) s (s.push16 (pairRead pair s))

/-- `PUSH PSW` (R241). -/
def execPushPsw (s : State) : Outcome :=
  complete .pushPsw (s.push16 s.psw)

/-- `POP rp` (R242). -/
def execPop (pair : Pair) (s : State) : Outcome :=
  completeValid (.pop pair) s (pairWrite pair s.stackTop s).dropTop

/-- `POP PSW` (R243): the flag byte at `SP`, `A` at `SP + 1`. -/
def execPopPsw (s : State) : Outcome :=
  complete .popPsw ((s.setFlags (unpackFlags (s.memRead1 s.sp))).setA (s.memRead1 (s.sp + 1))).dropTop

/-- `XTHL` (R244): both bytes are read before either is written. -/
def execXthl (s : State) : Outcome :=
  complete .xthl (pairWrite .hl s.stackTop (s.memWrite2 s.sp s.regs.hl))

/-- `SPHL` (R245). -/
def execSphl (s : State) : Outcome :=
  complete .sphl (s.setSp s.regs.hl)

/-- `IN p8` (R246): no device is attached (D15, log entry 12). -/
def execInPort (p8 : Byte) (s : State) : Outcome :=
  complete (.inPort p8) (s.setA (s.portRead p8))

/-- `OUT p8` (R247). -/
def execOutPort (p8 : Byte) (s : State) : Outcome :=
  complete (.outPort p8) (s.portWrite p8 s.regs.a)

/-- `EI` (R248). -/
def execEi (s : State) : Outcome :=
  complete .ei (s.setInte true)

/-- `DI` (R249). -/
def execDi (s : State) : Outcome :=
  complete .di (s.setInte false)

/-- `HLT` (R250): a successful step that leaves `pc` where it is; its report is `Halt` (Sys2Proof/Machine/Reports.lean). -/
def execHlt (s : State) : Outcome :=
  completeAt .hlt s.pc s

/-- `NOP` (R251). -/
def execNop (s : State) : Outcome :=
  complete .nop s

end Sys2Proof.Machine
end

