-- ==== Sys2Proof/Machine/Dispatch.lean ====
section
/-!
DEFINITION. The dispatch of an instruction to its meaning: one arm per constructor of `Instr`, in the order of
spec/opcode_table.json.
-/

namespace Sys2Proof.Machine

def exec (i : Instr) (s : State) : Host.Outcome State Fault Refusal :=
  match i with
  | .nop => Sys2Proof.Machine.execNop s
  | .lxi pair d16 => Sys2Proof.Machine.execLxi pair d16 s
  | .stax pair => Sys2Proof.Machine.execStax pair s
  | .ldax pair => Sys2Proof.Machine.execLdax pair s
  | .shld a16 => Sys2Proof.Machine.execShld a16 s
  | .lhld a16 => Sys2Proof.Machine.execLhld a16 s
  | .sta a16 => Sys2Proof.Machine.execSta a16 s
  | .lda a16 => Sys2Proof.Machine.execLda a16 s
  | .inx pair => Sys2Proof.Machine.execInx pair s
  | .dcx pair => Sys2Proof.Machine.execDcx pair s
  | .dad pair => Sys2Proof.Machine.execDad pair s
  | .inrR r => Sys2Proof.Machine.execInrR r s
  | .inrM => Sys2Proof.Machine.execInrM s
  | .dcrR r => Sys2Proof.Machine.execDcrR r s
  | .dcrM => Sys2Proof.Machine.execDcrM s
  | .mviR r d8 => Sys2Proof.Machine.execMviR r d8 s
  | .mviM d8 => Sys2Proof.Machine.execMviM d8 s
  | .rlc => Sys2Proof.Machine.execRlc s
  | .rrc => Sys2Proof.Machine.execRrc s
  | .ral => Sys2Proof.Machine.execRal s
  | .rar => Sys2Proof.Machine.execRar s
  | .daa => Sys2Proof.Machine.execDaa s
  | .cma => Sys2Proof.Machine.execCma s
  | .stc => Sys2Proof.Machine.execStc s
  | .cmc => Sys2Proof.Machine.execCmc s
  | .movRR dst src => Sys2Proof.Machine.execMovRR dst src s
  | .movRM dst => Sys2Proof.Machine.execMovRM dst s
  | .movMR src => Sys2Proof.Machine.execMovMR src s
  | .hlt => Sys2Proof.Machine.execHlt s
  | .addR r => Sys2Proof.Machine.execAddR r s
  | .addM => Sys2Proof.Machine.execAddM s
  | .adcR r => Sys2Proof.Machine.execAdcR r s
  | .adcM => Sys2Proof.Machine.execAdcM s
  | .subR r => Sys2Proof.Machine.execSubR r s
  | .subM => Sys2Proof.Machine.execSubM s
  | .sbbR r => Sys2Proof.Machine.execSbbR r s
  | .sbbM => Sys2Proof.Machine.execSbbM s
  | .anaR r => Sys2Proof.Machine.execAnaR r s
  | .anaM => Sys2Proof.Machine.execAnaM s
  | .xraR r => Sys2Proof.Machine.execXraR r s
  | .xraM => Sys2Proof.Machine.execXraM s
  | .oraR r => Sys2Proof.Machine.execOraR r s
  | .oraM => Sys2Proof.Machine.execOraM s
  | .cmpR r => Sys2Proof.Machine.execCmpR r s
  | .cmpM => Sys2Proof.Machine.execCmpM s
  | .adi d8 => Sys2Proof.Machine.execAdi d8 s
  | .aci d8 => Sys2Proof.Machine.execAci d8 s
  | .sui d8 => Sys2Proof.Machine.execSui d8 s
  | .sbi d8 => Sys2Proof.Machine.execSbi d8 s
  | .ani d8 => Sys2Proof.Machine.execAni d8 s
  | .xri d8 => Sys2Proof.Machine.execXri d8 s
  | .ori d8 => Sys2Proof.Machine.execOri d8 s
  | .cpi d8 => Sys2Proof.Machine.execCpi d8 s
  | .rnz => Sys2Proof.Machine.execRnz s
  | .jnz a16 => Sys2Proof.Machine.execJnz a16 s
  | .cnz a16 => Sys2Proof.Machine.execCnz a16 s
  | .rz => Sys2Proof.Machine.execRz s
  | .jz a16 => Sys2Proof.Machine.execJz a16 s
  | .cz a16 => Sys2Proof.Machine.execCz a16 s
  | .rnc => Sys2Proof.Machine.execRnc s
  | .jnc a16 => Sys2Proof.Machine.execJnc a16 s
  | .cnc a16 => Sys2Proof.Machine.execCnc a16 s
  | .rc => Sys2Proof.Machine.execRc s
  | .jc a16 => Sys2Proof.Machine.execJc a16 s
  | .cc a16 => Sys2Proof.Machine.execCc a16 s
  | .rpo => Sys2Proof.Machine.execRpo s
  | .jpo a16 => Sys2Proof.Machine.execJpo a16 s
  | .cpo a16 => Sys2Proof.Machine.execCpo a16 s
  | .rpe => Sys2Proof.Machine.execRpe s
  | .jpe a16 => Sys2Proof.Machine.execJpe a16 s
  | .cpe a16 => Sys2Proof.Machine.execCpe a16 s
  | .rp => Sys2Proof.Machine.execRp s
  | .jp a16 => Sys2Proof.Machine.execJp a16 s
  | .cp a16 => Sys2Proof.Machine.execCp a16 s
  | .rm => Sys2Proof.Machine.execRm s
  | .jm a16 => Sys2Proof.Machine.execJm a16 s
  | .cm a16 => Sys2Proof.Machine.execCm a16 s
  | .pop pair => Sys2Proof.Machine.execPop pair s
  | .popPsw => Sys2Proof.Machine.execPopPsw s
  | .push pair => Sys2Proof.Machine.execPush pair s
  | .pushPsw => Sys2Proof.Machine.execPushPsw s
  | .ret => Sys2Proof.Machine.execRet s
  | .pchl => Sys2Proof.Machine.execPchl s
  | .sphl => Sys2Proof.Machine.execSphl s
  | .jmp a16 => Sys2Proof.Machine.execJmp a16 s
  | .call a16 => Sys2Proof.Machine.execCall a16 s
  | .outPort p8 => Sys2Proof.Machine.execOutPort p8 s
  | .inPort p8 => Sys2Proof.Machine.execInPort p8 s
  | .xthl => Sys2Proof.Machine.execXthl s
  | .xchg => Sys2Proof.Machine.execXchg s
  | .di => Sys2Proof.Machine.execDi s
  | .ei => Sys2Proof.Machine.execEi s
  | .rst n => Sys2Proof.Machine.execRst n s
  | .illegal08 => Sys2Proof.Machine.execIllegal08 s
  | .illegal10 => Sys2Proof.Machine.execIllegal10 s
  | .illegal18 => Sys2Proof.Machine.execIllegal18 s
  | .illegal20 => Sys2Proof.Machine.execIllegal20 s
  | .illegal28 => Sys2Proof.Machine.execIllegal28 s
  | .illegal30 => Sys2Proof.Machine.execIllegal30 s
  | .illegal38 => Sys2Proof.Machine.execIllegal38 s
  | .illegalCB => Sys2Proof.Machine.execIllegalCB s
  | .illegalD9 => Sys2Proof.Machine.execIllegalD9 s
  | .illegalDD => Sys2Proof.Machine.execIllegalDD s
  | .illegalED => Sys2Proof.Machine.execIllegalED s
  | .illegalFD => Sys2Proof.Machine.execIllegalFD s

end Sys2Proof.Machine
end

