-- ==== Sys2Proof/Machine/Step.lean ====
section
/-!
DEFINITION. One step of the machine (30_encoding R90 to R94, 60_exceptions R260, R261, R266): in state Ready it
fetches, decodes and executes one instruction; in state Faulted it changes nothing and reports the fault.
-/

namespace Sys2Proof.Machine

/-- One call of `execute`. DESIGN CHOICE (log entry 1), safe: a faulting step is a next state (Faulted), and every
step after it stops with the fault. -/
def step (s : State) : Host.Outcome State Fault Refusal :=
  match s.engine with
  | .ready => exec s.fetch s
  | .faulted record => .fault (.executionFault record)

/-- The state with an instruction, given as one number of `nbits` bits, stored where the next step fetches. The engine
is made Ready, since a step in state Faulted fetches nothing (log entry 18). -/
def State.withFetchWord (s : State) (nbits w : Nat) : State :=
  (s.storeBytes s.pc [tableByte nbits w 0, tableByte nbits w 1, tableByte nbits w 2]).setEngine .ready

end Sys2Proof.Machine
end

