-- ==== Sys2Proof/Machine/Disassemble.lean ====
section
/-!
DEFINITION. The disassembler of the decoder (30_encoding R113, R114, 70_reset R303). The text of an instruction stands
in Sys2Proof/Machine/Text.lean (log entry 19).
-/

namespace Sys2Proof.Machine

/-- What `disassemble` returns: the text, the number of extra bytes, the cost (R113). -/
structure Disassembly where
  text : String
  length : Nat
  cycles : Nat
deriving DecidableEq, Repr

/-- `disassemble(position)` (R113): it reads memory and changes nothing. -/
def disassemble (s : State) (position : Word) : Disassembly :=
  let i := decode (s.memRead1 position) (s.memRead1 (position + 1)) (s.memRead1 (position + 2))
  ⟨instrText i, i.operandBytes.length, i.cost⟩

/-- `disassemble_range` with a bound on the number of entries. -/
def disassembleUpTo (s : State) (fuel position stop : Nat) : String :=
  match fuel with
  | 0 => ""
  | fuel + 1 =>
    if position < stop then
      (disassemble s (BitVec.ofNat 16 position)).text ++ "\n" ++
        disassembleUpTo s fuel (position + 1 + (disassemble s (BitVec.ofNat 16 position)).length) stop
    else ""

/-- `disassemble_range(start, end)` (R114): each entry advances, so `stop - start` entries suffice. The position is a
natural number and does not wrap: DESIGN CHOICE (log entry 20), safe: the spec does not say, no step depends on it. -/
def disassembleRange (s : State) (start stop : Nat) : String := disassembleUpTo s (stop - start) start stop

end Sys2Proof.Machine
end

