-- ==== Sys2Proof/Machine/HostAccess.lean ====
section
/-!
DEFINITION. What the host can do between steps (70_reset R290 to R297): construct the machine, load an image, read and
write the accessors of 10_state R23, the ports and the pins (10_state R40 to R43). None of these is a step; each
leaves both counters and the engine state alone (R297). The host has no move during a step (R298, log entry 13).
-/

namespace Sys2Proof.Machine

/-! ## Construction and the image -/

/-- `load_image(bytes, offset)` (20_memory R67, 60_exceptions R273). -/
def loadImage (bytes : List Byte) (offset : Nat) (s : State) : Except HostError State :=
  if offset + bytes.length ≤ 65536 then .ok (s.storeBytes (BitVec.ofNat 16 offset) bytes)
  else .error .imageLoadOverflow

/-- Construction with an image at an offset (70_reset R291); `pc` is 0 whatever the offset is (R293). -/
def construct (image : List Byte) (offset : Nat) : Except HostError State := loadImage image offset State.reset

/-- Construction with the parameters `IMAGE` and `OFFSET` at their values (00_scope R9; log entry 7). -/
def constructDefault : Except HostError State := construct config.image config.offset

/-! ## Accessors; the 8-bit ones are `Reg8` itself: `A B C D E H L M` (10_state R23) -/

/-- The 16-bit accessors. -/
inductive WordName where
  | bc | de | hl | sp | pc
deriving DecidableEq, Repr

/-- The flag accessors. -/
inductive FlagName where
  | z | s | p | cy | ac
deriving DecidableEq, Repr

def hostRead8 (name : Reg8) (s : State) : Byte := reg8Read name s

def hostWrite8 (name : Reg8) (v : Byte) (s : State) : State := reg8Write name v s

def hostRead16 (name : WordName) (s : State) : Word :=
  match name with
  | .bc => s.regs.bc
  | .de => s.regs.de
  | .hl => s.regs.hl
  | .sp => s.sp
  | .pc => s.pc

def hostWrite16 (name : WordName) (v : Word) (s : State) : State :=
  match name with
  | .bc => s.setRegs (s.regs.setBC v)
  | .de => s.setRegs (s.regs.setDE v)
  | .hl => s.setRegs (s.regs.setHL v)
  | .sp => s.setSp v
  | .pc => s.setPc v

def hostReadFlag (name : FlagName) (s : State) : Bool :=
  match name with
  | .z => s.flags.z
  | .s => s.flags.s
  | .p => s.flags.p
  | .cy => s.flags.cy
  | .ac => s.flags.ac

def hostWriteFlag (name : FlagName) (v : Bool) (s : State) : State :=
  match name with
  | .z => s.setFlags { s.flags with z := v }
  | .s => s.setFlags { s.flags with s := v }
  | .p => s.setFlags { s.flags with p := v }
  | .cy => s.setFlags { s.flags with cy := v }
  | .ac => s.setFlags { s.flags with ac := v }

/-- Memory as an array the host inspects (20_memory R85). -/
def hostReadMemory (addr : Word) (s : State) : Byte := s.memRead1 addr

def hostWriteMemory (addr : Word) (v : Byte) (s : State) : State := s.memWrite1 addr v

def hostReadPort (p : Byte) (s : State) : Byte := s.portRead p

def hostWritePort (p : Byte) (v : Byte) (s : State) : State := s.portWrite p v

/-! ## Pins -/

/-- The class of each pin (10_state R41). -/
def pinClassOf : Pin → PinClass
  | .address _ | .data _ => .writeOnly
  | .inte | .dbin | .wr | .sync | .wait | .hlda => .writeOnly
  | .reset | .hold | .int | .phi1 | .phi2 | .ready => .readOnly

/-- A word with one bit replaced. -/
def replaceBit {w : Nat} (x : BitVec w) (i : Nat) (v : Bool) : BitVec w :=
  if v then x ||| (1#w <<< i) else x &&& ~~~(1#w <<< i)

/-- The level of one pin. -/
def Pins.get (pins : Pins) : Pin → Bool
  | .address line => pins.address.getLsbD line
  | .data line => pins.data.getLsbD line
  | .inte => pins.inte
  | .dbin => pins.dbin
  | .wr => pins.wr
  | .sync => pins.sync
  | .wait => pins.wait
  | .hlda => pins.hlda
  | .reset => pins.reset
  | .hold => pins.hold
  | .int => pins.int
  | .phi1 => pins.phi1
  | .phi2 => pins.phi2
  | .ready => pins.ready

/-- The pins with one level replaced. -/
def Pins.set (pins : Pins) (pin : Pin) (v : Bool) : Pins :=
  match pin with
  | .address line => { pins with address := replaceBit pins.address line v }
  | .data line => { pins with data := replaceBit pins.data line v }
  | .inte => { pins with inte := v }
  | .dbin => { pins with dbin := v }
  | .wr => { pins with wr := v }
  | .sync => { pins with sync := v }
  | .wait => { pins with wait := v }
  | .hlda => { pins with hlda := v }
  | .reset => { pins with reset := v }
  | .hold => { pins with hold := v }
  | .int => { pins with int := v }
  | .phi1 => { pins with phi1 := v }
  | .phi2 => { pins with phi2 := v }
  | .ready => { pins with ready := v }

/-- Every pin of 10_state R41. -/
def allPins : List Pin :=
  (List.finRange 16).map Pin.address ++ (List.finRange 8).map Pin.data ++
    [.inte, .dbin, .wr, .sync, .wait, .hlda, .reset, .hold, .int, .phi1, .phi2, .ready]

/-- The 64-bit pin field, each pin at its `PIN_INDEX` (10_state R40, R41); no rule depends on a position. -/
def Pins.toField (pins : Pins) : BitVec 64 :=
  allPins.foldl (fun field pin => if pins.get pin then field ||| (1#64 <<< config.pinIndex pin) else field) 0

/-- `set_pin(pin, bool)` (10_state R43, 60_exceptions R274). -/
def setPin (pin : Pin) (v : Bool) (s : State) : Except HostError State :=
  match pinClassOf pin with
  | .writeOnly => .ok (s.setPins (s.pins.set pin v))
  | .readOnly => .error .unwritablePin

/-- `get_pin(pin)` (10_state R43, 60_exceptions R274). -/
def getPin (pin : Pin) (s : State) : Except HostError Bool :=
  match pinClassOf pin with
  | .writeOnly => .error .unreadablePin
  | .readOnly => .ok (s.pins.get pin)

/-- The level the host puts on an input pin (70_reset R297); an output pin is not the host's to drive, so it is left as
it is. DESIGN CHOICE (log entry 14), safe: no step reads a pin. -/
def driveInputPin (pin : Pin) (v : Bool) (s : State) : State :=
  match pinClassOf pin with
  | .readOnly => s.setPins (s.pins.set pin v)
  | .writeOnly => s

end Sys2Proof.Machine
end

