-- ==== Sys2Proof/Machine/Reports.lean ====
section
/-!
DEFINITION. What a call of `execute` reports to the host (60_exceptions R260, R265 to R267; 30_encoding R95). A report
is determined by the state before the step, so it is a function of that state: DESIGN CHOICE (log entry 3), safe.
-/

namespace Sys2Proof.Machine

/-- `next_offset`: the length of the instruction, and 0 for `HLT` (30_encoding R95). -/
def nextOffset (i : Instr) : Nat := if i = .hlt then 0 else i.length

/-- The report of a step that executes `i` at `s`. -/
def reportOf (i : Instr) (s : State) : Report :=
  match i.legal with
  | false => .fault (faultRecord i .illegalOpcode s.pc)
  | true => if i = .hlt then .halt else .ok (nextOffset i)

/-- The report of the step from a state: in state Faulted, the same `Fault` again (60_exceptions R266). -/
def report (s : State) : Report :=
  match s.engine with
  | .ready => reportOf s.fetch s
  | .faulted record => .fault record

/-- The numeric code of a cause (60_exceptions R269). -/
def causeCode : Cause → Nat
  | .illegalOpcode => 1
  | .invalidSelector => 2

end Sys2Proof.Machine
end

