-- ==== Sys2Proof/Machine/Run.lean ====
section
/-!
DEFINITION. A run and its end (70_reset R305): the steps the host makes one after the other, up to the first whose
report is `Halt` or `Fault`. A run need not end, so it is executed under a step bound.
-/

namespace Sys2Proof.Machine

/-- Where a run stands after a number of steps (70_reset R305). -/
inductive RunResult where
  /-- A step reported `Halt`: the final state, the one after that step. -/
  | endedNormally (final : State)
  /-- A step reported `Fault`: the Faulted state, which is not a final state, and what was reported. -/
  | endedAbnormally (stopped : State) (record : FaultRecord)
  /-- The step bound is used up and the run has not ended. -/
  | running (s : State)
deriving DecidableEq, Repr

/-- The state after a call of `execute`; a call in state Faulted changes nothing (60_exceptions R266). -/
def stateAfter (s : State) : State :=
  match step s with
  | .next t => t
  | .fault _ => s
  | .refused _ => s

/-- A run of at most `bound` steps from a state. The bound is the executor's own and no state of the machine; the host
makes no other move within the run (log entry 31). -/
def run (bound : Nat) (s : State) : RunResult :=
  match bound with
  | 0 => .running s
  | bound + 1 =>
    match report s with
    | .ok _ => run bound (stateAfter s)
    | .halt => .endedNormally (stateAfter s)
    | .fault record => .endedAbnormally (stateAfter s) record

/-- The final state of a run, if it has one: a run that ended normally has, a Faulted state is none. -/
def RunResult.final : RunResult → Option State
  | .endedNormally t => some t
  | .endedAbnormally _ _ => none
  | .running _ => none

/-- The state the run has come to. -/
def RunResult.state : RunResult → State
  | .endedNormally t => t
  | .endedAbnormally t _ => t
  | .running t => t

/-- A run from construction with an image (70_reset R291, R305). -/
def runImage (image : List Byte) (offset bound : Nat) : Except HostError RunResult :=
  (construct image offset).map (run bound)

end Sys2Proof.Machine
end

