-- ==== Sys2Proof/Safety.lean ====
section
/-!
DEFINITION. What the spec calls a good state and the end of a run (60_exceptions R261, 70_reset R305), and the
invariant of the model's own representation.
-/

namespace Sys2Proof.Machine

/-- The canonical form of memory and of the ports, which every operation keeps. -/
abbrev State.Inv (s : State) : Prop := Memory.wf s.mem ∧ Memory.portsWf s.ports

/-- State Ready: the next call of `execute` executes an instruction (60_exceptions R261). -/
abbrev State.Ready (s : State) : Prop := s.engine = .ready

/-- The run from this state ends normally, in the final state `t` (70_reset R305). -/
abbrev State.EndsNormally (s t : State) : Prop := ∃ bound, run bound s = .endedNormally t

/-- The run from this Ready state ends abnormally, in the Faulted state `t`, which is not a final state (70_reset R305). -/
abbrev State.EndsAbnormally (s t : State) (record : FaultRecord) : Prop :=
  s.Ready ∧ ∃ bound, run bound s = .endedAbnormally t record

/-- The run from this state does not end (70_reset R305). -/
abbrev State.NeverEnds (s : State) : Prop := ∀ bound, ∃ t, run bound s = .running t

/-- A safe step: it reports no fault. A Faulted state is never safe again (60_exceptions R266). -/
abbrev State.SafeStep (s : State) : Prop := ∀ record, report s ≠ .fault record

end Sys2Proof.Machine
end

