-- ==== Sys2Proof/Certificates/Slice0/Obligations.lean ====
section
/-!
DEFINITION. The statements about this model, each from the spec's numbered rules. Nothing is proved here.
-/

open Sys2Proof Sys2Proof.Machine

namespace Sys2Proof.Claims

/-! ## Words the statements share -/

/-- The instruction `i` has these bytes, and `exec i s` ANSWERS A NEXT STATE: the state `done` (the effect of the
instruction at `s`), with `pc` at `target`, `CYCLES[op]` added to `cycles` and 1 added to `iter` (00_scope R12). -/
def Runs (i : Instr) (bytes : List Byte) (s done : State) (target : Word) : Prop :=
  encode i = bytes ∧
    exec i s = .next { done with pc := target, cycles := s.cycles + config.cycles i.opcode, iter := s.iter + 1 }

/-- The three bytes of an instruction with a 16-bit operand: opcode, low byte, high byte. -/
def bytes3 (op : Byte) (v : Word) : List Byte := [op, lowByte v, highByte v]

/-- The state with `A` and all five flags from an ALU primitive. -/
def accumulate (s : State) (r : AluResult 8) : State := { s with regs := { s.regs with a := r.value }, flags := r.flags }

/-- The state with `A` replaced. -/
def withA (s : State) (v : Byte) : State := { s with regs := { s.regs with a := v } }

/-- The state with `HL` replaced: `H` the high half, `L` the low half. -/
def withHL (s : State) (v : Word) : State := { s with regs := { s.regs with h := highByte v, l := lowByte v } }

/-- The state with `Cy` replaced. -/
def withCy (s : State) (v : Bool) : State := { s with flags := { s.flags with cy := v } }

/-- The state after a push of `v`: `MemWrite(SP - 2, 2, v); SP <- SP - 2`. -/
def pushed (s : State) (v : Word) : State := { s with sp := s.sp - 2, mem := (s.memWrite2 (s.sp - 2) v).mem }

/-- The state after `SP <- SP + 2`. -/
def popped (s : State) : State := { s with sp := s.sp + 2 }

/-- An outcome with its next state changed. -/
def mapNext (f : State → State) : Outcome → Outcome
  | .next t => .next (f t)
  | .fault r => .fault r
  | .refused r => .refused r

/-- The twelve illegal bytes of 30_encoding R110. -/
def illegalBytes : List Byte :=
  [0x08#8, 0x10#8, 0x18#8, 0x20#8, 0x28#8, 0x30#8, 0x38#8, 0xCB#8, 0xD9#8, 0xDD#8, 0xED#8, 0xFD#8]

/-- What the fault of an illegal opcode byte records: address, byte, cause, and the text `0xNNNN: NOT IMPLEMENTED`
(60_exceptions R265; the text's layout is the spec's decision D17, log entry 19). -/
def illegalRecord (pc : Word) (op : Byte) : FaultRecord :=
  ⟨pc, op, .illegalOpcode, hexWord pc ++ ": " ++ "NOT IMPLEMENTED"⟩

/-- The 26 opcode bytes of length 3 (30_encoding R98). -/
def threeByteOpcodes : List Byte :=
  [0x01#8, 0x11#8, 0x21#8, 0x31#8, 0x22#8, 0x2A#8, 0x32#8, 0x3A#8, 0xC3#8, 0xCD#8] ++
    [0xC2#8, 0xCA#8, 0xD2#8, 0xDA#8, 0xE2#8, 0xEA#8, 0xF2#8, 0xFA#8] ++
    [0xC4#8, 0xCC#8, 0xD4#8, 0xDC#8, 0xE4#8, 0xEC#8, 0xF4#8, 0xFC#8]

/-- The 18 opcode bytes of length 2 (30_encoding R98). -/
def twoByteOpcodes : List Byte :=
  [0x06#8, 0x0E#8, 0x16#8, 0x1E#8, 0x26#8, 0x2E#8, 0x36#8, 0x3E#8, 0xD3#8, 0xDB#8] ++
    [0xC6#8, 0xCE#8, 0xD6#8, 0xDE#8, 0xE6#8, 0xEE#8, 0xF6#8, 0xFE#8]

/-- The cost of each instruction: the table "the same by instruction" of 70_reset R301. -/
def costByInstruction : Instr → Nat
  | .nop | .rlc | .rrc | .ral | .rar | .daa | .cma | .stc | .cmc | .xchg | .ei | .di => 4
  | .addR _ | .adcR _ | .subR _ | .sbbR _ | .anaR _ | .xraR _ | .oraR _ | .cmpR _ => 4
  | .movRR _ _ | .inrR _ | .dcrR _ | .inx _ | .dcx _ | .pchl | .sphl => 5
  | .movRM _ | .movMR _ | .mviR _ _ | .ldax _ | .stax _ | .hlt => 7
  | .addM | .adcM | .subM | .sbbM | .anaM | .xraM | .oraM | .cmpM => 7
  | .adi _ | .aci _ | .sui _ | .sbi _ | .ani _ | .xri _ | .ori _ | .cpi _ => 7
  | .lxi _ _ | .dad _ | .inrM | .dcrM | .mviM _ | .jmp _ | .ret | .pop _ | .popPsw | .inPort _ | .outPort _ => 10
  | .jnz _ | .jz _ | .jnc _ | .jc _ | .jpo _ | .jpe _ | .jp _ | .jm _ => 10
  | .push _ | .pushPsw | .rst _ | .rnz | .rz | .rnc | .rc | .rpo | .rpe | .rp | .rm => 11
  | .lda _ | .sta _ => 13
  | .lhld _ | .shld _ => 16
  | .call _ | .cnz _ | .cz _ | .cnc _ | .cc _ | .cpo _ | .cpe _ | .cp _ | .cm _ => 17
  | .xthl => 18
  | .illegal08 | .illegal10 | .illegal18 | .illegal20 | .illegal28 | .illegal30 | .illegal38 => 0
  | .illegalCB | .illegalD9 | .illegalDD | .illegalED | .illegalFD => 0

/-- The two halves of a pair among the registers (`SP` has none). -/
def halves : Pair → List Reg8
  | .bc => [.b, .c]
  | .de => [.d, .e]
  | .hl => [.h, .l]
  | .sp => []

/-- The byte registers an instruction may write (30_encoding R115, column "Writes"). -/
def writtenRegisters : Instr → List Reg8
  | .lxi pair _ | .inx pair | .dcx pair | .pop pair => halves pair
  | .movRR r _ | .movRM r | .mviR r _ | .inrR r | .dcrR r => [r]
  | .addR _ | .adcR _ | .subR _ | .sbbR _ | .anaR _ | .xraR _ | .oraR _ => [.a]
  | .addM | .adcM | .subM | .sbbM | .anaM | .xraM | .oraM => [.a]
  | .adi _ | .aci _ | .sui _ | .sbi _ | .ani _ | .xri _ | .ori _ => [.a]
  | .lda _ | .ldax _ | .rlc | .rrc | .ral | .rar | .daa | .cma | .inPort _ | .popPsw => [.a]
  | .lhld _ | .dad _ | .xthl => [.h, .l]
  | .xchg => [.d, .e, .h, .l]
  | .nop | .stax _ | .shld _ | .sta _ | .inrM | .dcrM | .mviM _ | .stc | .cmc | .movMR _ | .hlt | .cmpR _ => []
  | .cmpM | .cpi _ | .rnz | .jnz _ | .cnz _ | .rz | .jz _ | .cz _ | .rnc | .jnc _ | .cnc _ | .rc | .jc _ => []
  | .cc _ | .rpo | .jpo _ | .cpo _ | .rpe | .jpe _ | .cpe _ | .rp | .jp _ | .cp _ | .rm | .jm _ | .cm _ => []
  | .push _ | .pushPsw | .ret | .pchl | .sphl | .jmp _ | .call _ | .outPort _ | .di | .ei | .rst _ => []
  | .illegal08 | .illegal10 | .illegal18 | .illegal20 | .illegal28 | .illegal30 | .illegal38 | .illegalCB => []
  | .illegalD9 | .illegalDD | .illegalED | .illegalFD => []

/-- May the instruction write `SP` (30_encoding R115)? -/
def writesSp : Instr → Bool
  | .lxi pair _ | .inx pair | .dcx pair => decide (pair = .sp)
  | .call _ | .cnz _ | .cz _ | .cnc _ | .cc _ | .cpo _ | .cpe _ | .cp _ | .cm _ | .rst _ => true
  | .ret | .rnz | .rz | .rnc | .rc | .rpo | .rpe | .rp | .rm => true
  | .push _ | .pushPsw | .pop _ | .popPsw | .sphl => true
  | .nop | .stax _ | .ldax _ | .shld _ | .lhld _ | .sta _ | .lda _ | .dad _ | .inrR _ | .inrM | .dcrR _ => false
  | .dcrM | .mviR _ _ | .mviM _ | .rlc | .rrc | .ral | .rar | .daa | .cma | .stc | .cmc | .movRR _ _ => false
  | .movRM _ | .movMR _ | .hlt | .addR _ | .addM | .adcR _ | .adcM | .subR _ | .subM | .sbbR _ | .sbbM => false
  | .anaR _ | .anaM | .xraR _ | .xraM | .oraR _ | .oraM | .cmpR _ | .cmpM | .adi _ | .aci _ | .sui _ => false
  | .sbi _ | .ani _ | .xri _ | .ori _ | .cpi _ | .jnz _ | .jz _ | .jnc _ | .jc _ | .jpo _ | .jpe _ => false
  | .jp _ | .jm _ | .pchl | .jmp _ | .outPort _ | .inPort _ | .xthl | .xchg | .di | .ei | .illegal08 => false
  | .illegal10 | .illegal18 | .illegal20 | .illegal28 | .illegal30 | .illegal38 | .illegalCB => false
  | .illegalD9 | .illegalDD | .illegalED | .illegalFD => false

/-- The flags an instruction may write (10_state R30). -/
def writtenFlags : Instr → List FlagName
  | .addR _ | .adcR _ | .subR _ | .sbbR _ | .anaR _ | .xraR _ | .oraR _ | .cmpR _ => [.z, .s, .p, .cy, .ac]
  | .addM | .adcM | .subM | .sbbM | .anaM | .xraM | .oraM | .cmpM => [.z, .s, .p, .cy, .ac]
  | .adi _ | .aci _ | .sui _ | .sbi _ | .ani _ | .xri _ | .ori _ | .cpi _ | .daa | .popPsw => [.z, .s, .p, .cy, .ac]
  | .inrR _ | .inrM | .dcrR _ | .dcrM => [.z, .s, .p, .ac]
  | .dad _ | .rlc | .rrc | .ral | .rar | .stc | .cmc => [.cy]
  | .nop | .lxi _ _ | .stax _ | .ldax _ | .shld _ | .lhld _ | .sta _ | .lda _ | .inx _ | .dcx _ => []
  | .mviR _ _ | .mviM _ | .cma | .movRR _ _ | .movRM _ | .movMR _ | .hlt | .rnz | .jnz _ | .cnz _ | .rz => []
  | .jz _ | .cz _ | .rnc | .jnc _ | .cnc _ | .rc | .jc _ | .cc _ | .rpo | .jpo _ | .cpo _ | .rpe | .jpe _ => []
  | .cpe _ | .rp | .jp _ | .cp _ | .rm | .jm _ | .cm _ | .pop _ | .push _ | .pushPsw | .ret | .pchl => []
  | .sphl | .jmp _ | .call _ | .outPort _ | .inPort _ | .xthl | .xchg | .di | .ei | .rst _ | .illegal08 => []
  | .illegal10 | .illegal18 | .illegal20 | .illegal28 | .illegal30 | .illegal38 | .illegalCB | .illegalD9 => []
  | .illegalDD | .illegalED | .illegalFD => []

/-- The two addresses of a word. -/
def wordAddresses (addr : Word) : List Word := [addr, addr + 1]

/-- The addresses of the bytes an instruction stores to, by the expressions its meaning uses (30_encoding R115). -/
def storedAddresses (i : Instr) (s : State) : List Word :=
  match i with
  | .movMR _ | .mviM _ | .inrM | .dcrM => [s.mAddress]
  | .sta a16 => [a16]
  | .stax pair => [pairRead pair s]
  | .shld a16 => wordAddresses a16
  | .push _ | .pushPsw | .call _ | .rst _ => wordAddresses s.pushAddress
  | .cnz _ => if s.flags.z = false then wordAddresses s.pushAddress else []
  | .cz _ => if s.flags.z = true then wordAddresses s.pushAddress else []
  | .cnc _ => if s.flags.cy = false then wordAddresses s.pushAddress else []
  | .cc _ => if s.flags.cy = true then wordAddresses s.pushAddress else []
  | .cpo _ => if s.flags.p = false then wordAddresses s.pushAddress else []
  | .cpe _ => if s.flags.p = true then wordAddresses s.pushAddress else []
  | .cp _ => if s.flags.s = false then wordAddresses s.pushAddress else []
  | .cm _ => if s.flags.s = true then wordAddresses s.pushAddress else []
  | .xthl => wordAddresses s.sp
  | .nop | .lxi _ _ | .ldax _ | .lhld _ | .lda _ | .inx _ | .dcx _ | .dad _ | .inrR _ | .dcrR _ => []
  | .mviR _ _ | .rlc | .rrc | .ral | .rar | .daa | .cma | .stc | .cmc | .movRR _ _ | .movRM _ | .hlt => []
  | .addR _ | .addM | .adcR _ | .adcM | .subR _ | .subM | .sbbR _ | .sbbM | .anaR _ | .anaM | .xraR _ => []
  | .xraM | .oraR _ | .oraM | .cmpR _ | .cmpM | .adi _ | .aci _ | .sui _ | .sbi _ | .ani _ | .xri _ => []
  | .ori _ | .cpi _ | .rnz | .jnz _ | .rz | .jz _ | .rnc | .jnc _ | .rc | .jc _ | .rpo | .jpo _ | .rpe => []
  | .jpe _ | .rp | .jp _ | .rm | .jm _ | .pop _ | .popPsw | .ret | .pchl | .sphl | .jmp _ | .outPort _ => []
  | .inPort _ | .xchg | .di | .ei | .illegal08 | .illegal10 | .illegal18 | .illegal20 | .illegal28 => []
  | .illegal30 | .illegal38 | .illegalCB | .illegalD9 | .illegalDD | .illegalED | .illegalFD => []

/-- The pins after an instruction: `EI` raises `INTE`, `DI` lowers it, nothing else drives a pin (10_state R42). -/
def pinsAfter (i : Instr) (p : Pins) : Pins :=
  if i = .ei then { p with inte := true } else if i = .di then { p with inte := false } else p

end Sys2Proof.Claims

open Sys2Proof.Claims

/-! ## Encoding -/

/-- Decoding the bytes of a well-formed instruction, whatever follows them, gives it back with every operand
(30_encoding sections 2 to 4). -/
def Obligations.DecodeOfEncode : Prop :=
  ∀ (i : Instr) (rest : List Byte), i.wellFormed = true → decodeBytes (encode i ++ rest) = .ok (i, rest)

/-- Every opcode byte decodes to a well-formed instruction whose encoding is the opcode byte and its extra bytes: each
word has one meaning (30_encoding R108, R109). -/
def Obligations.EncodeOfDecode : Prop :=
  ∀ op b2 b3 : Byte, (decode op b2 b3).wellFormed = true ∧
    encode (decode op b2 b3) = [op, b2, b3].take (1 + extraBytes op)

/-- The opcode bytes the source document shows decode as it says (30_encoding R117). -/
def Obligations.PublishedOpcodes : Prop :=
  decodeBytes [0x3E, 0x05] = .ok (.mviR .a 0x05, []) ∧ decodeBytes [0x47] = .ok (.movRR .b .a, []) ∧
    decodeBytes [0x3C] = .ok (.inrR .a, []) ∧ decodeBytes [0xC3, 0x10, 0x00] = .ok (.jmp 0x0010, []) ∧
    decodeBytes [0x76] = .ok (.hlt, [])

/-- Exactly the twelve bytes of 30_encoding R110 are illegal (the spec's decision D4). -/
def Obligations.IllegalOpcodes : Prop :=
  ∀ op b2 b3 : Byte, (decode op b2 b3).legal = false ↔ op ∈ illegalBytes

/-- The length of an instruction by its opcode byte (30_encoding R98; an illegal byte has length 1 by D24). -/
def Obligations.InstructionLengths : Prop :=
  ∀ i : Instr, i.wellFormed = true →
    (encode i).length = i.length ∧ (i.length = 3 ↔ i.opcode ∈ threeByteOpcodes) ∧
    (i.length = 2 ↔ i.opcode ∈ twoByteOpcodes) ∧
    (i.length = 1 ↔ i.opcode ∉ threeByteOpcodes ∧ i.opcode ∉ twoByteOpcodes)

/-- The default `CYCLES` table by opcode byte is the table by instruction (70_reset R301; decision D14, log entry 5). -/
def Obligations.CycleCosts : Prop :=
  ∀ i : Instr, i.wellFormed = true → config.cycles i.opcode = costByInstruction i

/-! ## The step -/

/-- A step in state Ready is `exec` of the instruction that the bytes at `pc`, `pc + 1`, `pc + 2` decode to; the step
adds nothing around it (30_encoding R90, R93, R94). -/
def Obligations.StepRunsDecoded : Prop :=
  ∀ (s : State) (i : Instr) (rest : List Byte), s.Ready → i.wellFormed = true →
    decodeBytes [s.memRead1 s.pc, s.memRead1 (s.pc + 1), s.memRead1 (s.pc + 2)] = .ok (i, rest) → step s = exec i s

/-- In state Faulted a step changes nothing and reports the same fault (60_exceptions R266, the spec's decision D11;
the record is kept in the state by the model's choice, log entry 2). -/
def Obligations.FaultedStepReportsAgain : Prop :=
  ∀ (s : State) (r : FaultRecord), s.engine = .faulted r → step s = .fault (.executionFault r) ∧ report s = .fault r

/-- A step faults exactly on an illegal opcode byte, with the record of 60_exceptions R265 (the bytes are the spec's
decision D4; that the Faulted state is a next state is the model's choice, log entry 1). -/
def Obligations.IllegalOpcodeStep : Prop :=
  ∀ s : State, s.Ready →
    (s.memRead1 s.pc ∈ illegalBytes →
      step s = .next { s with engine := .faulted (illegalRecord s.pc (s.memRead1 s.pc)) }) ∧
    (s.memRead1 s.pc ∉ illegalBytes → ∃ t, step s = .next t ∧ t.engine = .ready)

/-- The effect of each illegal byte IS the execution fault (60_exceptions R262; D4, log entries 1 and 9). -/
def Obligations.IllegalInstructionsFault : Prop :=
  ∀ s : State,
    exec .illegal08 s = .next { s with engine := .faulted (illegalRecord s.pc 0x08#8) } ∧
    exec .illegal10 s = .next { s with engine := .faulted (illegalRecord s.pc 0x10#8) } ∧
    exec .illegal18 s = .next { s with engine := .faulted (illegalRecord s.pc 0x18#8) } ∧
    exec .illegal20 s = .next { s with engine := .faulted (illegalRecord s.pc 0x20#8) } ∧
    exec .illegal28 s = .next { s with engine := .faulted (illegalRecord s.pc 0x28#8) } ∧
    exec .illegal30 s = .next { s with engine := .faulted (illegalRecord s.pc 0x30#8) } ∧
    exec .illegal38 s = .next { s with engine := .faulted (illegalRecord s.pc 0x38#8) } ∧
    exec .illegalCB s = .next { s with engine := .faulted (illegalRecord s.pc 0xCB#8) } ∧
    exec .illegalD9 s = .next { s with engine := .faulted (illegalRecord s.pc 0xD9#8) } ∧
    exec .illegalDD s = .next { s with engine := .faulted (illegalRecord s.pc 0xDD#8) } ∧
    exec .illegalED s = .next { s with engine := .faulted (illegalRecord s.pc 0xED#8) } ∧
    exec .illegalFD s = .next { s with engine := .faulted (illegalRecord s.pc 0xFD#8) }

/-- A step that raises `ExecutionFault` changes nothing but `fault_pending` (60_exceptions R264). -/
def Obligations.FaultAtomicity : Prop :=
  ∀ s t : State, step s = .next t → t.faultPending = true → t = { s with engine := t.engine }

/-- Every instruction completes in every state: a legal one leaves the engine as it is, and only an illegal one makes
`fault_pending` 1 (60_exceptions R269 and its sections 1 and 2). A term with a selector its row does not allow, which no
byte encodes, is the fault InvalidSelector (60_exceptions section 2; log entry 17). -/
def Obligations.EveryInstructionCompletes : Prop :=
  ∀ (i : Instr) (s : State),
    (i.wellFormed = true →
      ∃ t, exec i s = .next t ∧ (i.legal = true → t.engine = s.engine) ∧ (i.legal = false → t.faultPending = true)) ∧
    (i.wellFormed = false →
      exec i s = .next { s with
        engine := .faulted ⟨s.pc, i.opcode, .invalidSelector, hexWord s.pc ++ ": " ++ instrText i⟩ })

/-- A successful step adds `CYCLES[op]` and 1 to the counters, a faulting one nothing (10_state R44, R45). -/
def Obligations.CountersAccumulate : Prop :=
  ∀ s t : State, step s = .next t →
    (t.faultPending = false → t.cycles = s.cycles + config.cycles (s.memRead1 s.pc) ∧ t.iter = s.iter + 1) ∧
    (t.faultPending = true → t.cycles = s.cycles ∧ t.iter = s.iter)

/-- No step depends on a counter: with other counts the step is the same, shifted (10_state R44, R45). -/
def Obligations.CountersAreNotRead : Prop :=
  ∀ (s : State) (c n : Nat),
    step { s with cycles := s.cycles + c, iter := s.iter + n } =
      mapNext (fun t => { t with cycles := t.cycles + c, iter := t.iter + n }) (step s)

/-- No step depends on a pin, and only `EI` and `DI` drive one, which is `INTE` (10_state R42; 60_exceptions R270,
the spec's decision D18). -/
def Obligations.PinsAreNotRead : Prop :=
  ∀ (s : State) (p : Pins),
    step { s with pins := p } = mapNext (fun t => { t with pins := pinsAfter s.fetch p }) (step s)

/-- Ports are read and written only by `IN` and `OUT`; no memory access reaches one (10_state R37). -/
def Obligations.PortsOnlyByInOut : Prop :=
  ∀ (i : Instr) (s : State) (m : Memory), (∀ p, i ≠ .inPort p) → (∀ p, i ≠ .outPort p) →
    exec i { s with ports := m } = mapNext (fun t => { t with ports := m }) (exec i s)

/-- Every step keeps the canonical form of memory and of the ports. -/
def Obligations.StepKeepsCanonicalForm : Prop :=
  ∀ s t : State, s.Inv → step s = .next t → t.Inv

/-- The canonical form holds after reset. -/
def Obligations.ResetHasCanonicalForm : Prop := State.reset.Inv

/-- What reset leaves (10_state R50; the values of the flags, pins, ports, counters and the fault flag are the spec's
decision D10, log entry 6; the image is the empty one, log entry 7). -/
def Obligations.ResetState : Prop :=
  (∀ r : Reg8, reg8Read r State.reset = 0x00#8) ∧ State.reset.sp = 0x0000#16 ∧ State.reset.pc = 0x0000#16 ∧
    (∀ f : FlagName, hostReadFlag f State.reset = false) ∧ (∀ p : Pin, State.reset.pins.get p = false) ∧
    (∀ a : Word, State.reset.memRead1 a = 0x00#8) ∧ (∀ p : Byte, State.reset.portRead p = 0x00#8) ∧
    State.reset.cycles = 0 ∧ State.reset.iter = 0 ∧ State.reset.faultPending = false

/-- `load_image` (20_memory R67): the bytes stand at their addresses, nothing else changes; an image that does not
fit is the configuration error. -/
def Obligations.LoadImage : Prop :=
  ∀ (bytes : List Byte) (offset : Nat) (s : State), s.Inv →
    (offset + bytes.length ≤ 65536 → ∃ t, loadImage bytes offset s = .ok t ∧ t = { s with mem := t.mem } ∧
      ∀ a : Word, t.memRead1 a =
        if offset ≤ a.toNat ∧ a.toNat < offset + bytes.length then bytes.getD (a.toNat - offset) 0#8
        else s.memRead1 a) ∧
    (offset + bytes.length > 65536 → loadImage bytes offset s = .error .imageLoadOverflow)

/-- What a step reports (60_exceptions R260, R265, 30_encoding R95; the spec's decisions D5, D12 and, for the text, D17, log
entry 19; that a report is a function of the state before the step is the model's choice, log entry 3). -/
def Obligations.StepReports : Prop :=
  ∀ s : State, s.Ready →
    (report s = .halt ↔ s.memRead1 s.pc = 0x76#8) ∧
    (∀ n, report s = .ok n ↔
      n = 1 + extraBytes (s.memRead1 s.pc) ∧ s.memRead1 s.pc ≠ 0x76#8 ∧ s.memRead1 s.pc ∉ illegalBytes) ∧
    (∀ r, report s = .fault r ↔ step s = .next { s with engine := .faulted r }) ∧
    (∀ r, report s = .fault r → r.diagnostic = hexWord s.pc ++ ": " ++ (disassemble s s.pc).text)

/-- How a run ends (70_reset section 5; the spec's decision D12; that the host makes no other move within the run is
log entry 31): normally at the first `HLT`, in the state after it, `pc` at the `HLT`; abnormally at the first illegal
byte, in the Faulted state, which is not a final state; otherwise every step is taken and the run goes on. -/
def Obligations.RunEnds : Prop :=
  ∀ (s : State) (k : Nat), s.Ready →
    (∀ t, run k s = .endedNormally t ↔ ∃ j u, j < k ∧ run j s = .running u ∧ u.memRead1 u.pc = 0x76#8 ∧
      t = { u with cycles := u.cycles + config.cycles 0x76#8, iter := u.iter + 1 }) ∧
    (∀ t r, run k s = .endedAbnormally t r ↔ ∃ j u, j < k ∧ run j s = .running u ∧
      u.memRead1 u.pc ∈ illegalBytes ∧ r = illegalRecord u.pc (u.memRead1 u.pc) ∧
      t = { u with engine := .faulted r }) ∧
    (∀ t, run k s = .running t → t.Ready ∧ t.iter = s.iter + k) ∧
    (∀ t r, run k s = .endedAbnormally t r → (run k s).final = none ∧ step t = .fault (.executionFault r))

/-! ## Registers, memory, ports, pins -/

/-- The 3-bit and the 2-bit selectors (30_encoding R100, R101, R102). -/
def Obligations.SelectorTables : Prop :=
  ∀ (s : State) (v : Byte) (w : Word),
    ([0, 1, 2, 3, 4, 5, 6, 7].map (fun n => reg8Read (Reg8.ofCode (BitVec.ofNat 3 n)) s) =
      [s.regs.b, s.regs.c, s.regs.d, s.regs.e, s.regs.h, s.regs.l, s.memRead1 s.regs.hl, s.regs.a]) ∧
    ([0, 1, 2, 3, 4, 5, 6, 7].map (fun n => reg8Write (Reg8.ofCode (BitVec.ofNat 3 n)) v s) =
      [{ s with regs := { s.regs with b := v } }, { s with regs := { s.regs with c := v } },
       { s with regs := { s.regs with d := v } }, { s with regs := { s.regs with e := v } },
       { s with regs := { s.regs with h := v } }, { s with regs := { s.regs with l := v } },
       s.memWrite1 s.regs.hl v, { s with regs := { s.regs with a := v } }]) ∧
    ([0, 1, 2, 3].map (fun n => pairRead (Pair.ofCode (BitVec.ofNat 2 n)) s) =
      [s.regs.bc, s.regs.de, s.regs.hl, s.sp]) ∧
    ([0, 1, 2, 3].map (fun n => pairWrite (Pair.ofCode (BitVec.ofNat 2 n)) w s) =
      [{ s with regs := s.regs.setBC w }, { s with regs := s.regs.setDE w }, { s with regs := s.regs.setHL w },
       { s with sp := w }])

/-- A pair is its two halves: reading the pair, writing the pair, writing one half (10_state R22). -/
def Obligations.PairViews : Prop :=
  ∀ (r : Regs) (v : Word) (x : Byte),
    (r.bc.toNat = 256 * r.b.toNat + r.c.toNat ∧ r.de.toNat = 256 * r.d.toNat + r.e.toNat ∧
      r.hl.toNat = 256 * r.h.toNat + r.l.toNat) ∧
    (r.setBC v = { r with b := v.extractLsb' 8 8, c := v.extractLsb' 0 8 } ∧ (r.setBC v).bc = v) ∧
    (r.setDE v = { r with d := v.extractLsb' 8 8, e := v.extractLsb' 0 8 } ∧ (r.setDE v).de = v) ∧
    (r.setHL v = { r with h := v.extractLsb' 8 8, l := v.extractLsb' 0 8 } ∧ (r.setHL v).hl = v) ∧
    (({ r with b := x } : Regs).bc = joinBytes x r.c ∧ ({ r with c := x } : Regs).bc = joinBytes r.b x) ∧
    (({ r with d := x } : Regs).de = joinBytes x r.e ∧ ({ r with e := x } : Regs).de = joinBytes r.d x) ∧
    (({ r with h := x } : Regs).hl = joinBytes x r.l ∧ ({ r with l := x } : Regs).hl = joinBytes r.h x)

/-- A byte write replaces the byte at its address and no other (20_memory R62, R63). -/
def Obligations.ByteAccess : Prop :=
  ∀ (s : State) (addr a : Word) (v : Byte), s.Inv →
    (s.memWrite1 addr v).memRead1 a = (if a = addr then v else s.memRead1 a) ∧
    (s.memWrite1 addr v) = { s with mem := (s.memWrite1 addr v).mem }

/-- Word accesses are little-endian and wrap at 0xFFFF; a word read gives back the word written, at every address
(20_memory R64, R65). -/
def Obligations.WordAccess : Prop :=
  ∀ (s : State) (addr a v : Word), s.Inv →
    (s.memRead2 addr).toNat = 256 * (s.memRead1 (addr + 1)).toNat + (s.memRead1 addr).toNat ∧
    (s.memWrite2 addr v).memRead1 a =
      (if a = addr then v.extractLsb' 0 8 else if a = addr + 1 then v.extractLsb' 8 8 else s.memRead1 a) ∧
    (s.memWrite2 addr v).memRead2 addr = v ∧ (s.memWrite2 addr v) = { s with mem := (s.memWrite2 addr v).mem }

/-- A port holds what was last written to it (20_memory R70, R71; that no device stands behind a port is the spec's
decision D15). -/
def Obligations.PortAccess : Prop :=
  ∀ (s : State) (p q v : Byte), s.Inv →
    (s.portWrite p v).portRead q = (if q = p then v else s.portRead q) ∧
    (s.portWrite p v) = { s with ports := (s.portWrite p v).ports }

/-- The two pin access errors (60_exceptions section 3); the other calls write or read the pin, and `set_pin(INTE, b)`,
which `EI` and `DI` make, is legal (10_state section 7: the spec's inference from its pin names and classes, decision
D9, log entry 10). -/
def Obligations.PinAccess : Prop :=
  ∀ (s : State) (pin q : Pin) (v : Bool),
    (pinClassOf pin = .readOnly → setPin pin v s = .error .unwritablePin ∧ getPin pin s = .ok (s.pins.get pin)) ∧
    (pinClassOf pin = .writeOnly → getPin pin s = .error .unreadablePin ∧
      setPin pin v s = .ok { s with pins := s.pins.set pin v }) ∧
    (s.pins.set pin v).get q = (if q = pin then v else s.pins.get q) ∧
    setPin .inte v s = .ok { s with pins := { s.pins with inte := v } }

/-! ## ALU primitives and flags -/

/-- `ZSP(r)` (40_alu R131): zero, bit 7, and even population count, which is the negated exclusive or of the bits. -/
def Obligations.ResultFlags : Prop :=
  ∀ (r : Byte) (cy ac : Bool),
    ((flagsOf r cy ac).z = true ↔ r.toNat = 0) ∧ ((flagsOf r cy ac).s = true ↔ r.toNat ≥ 128) ∧
    (flagsOf r cy ac).p = !(r.getLsbD 7 ^^ r.getLsbD 6 ^^ r.getLsbD 5 ^^ r.getLsbD 4 ^^ r.getLsbD 3 ^^ r.getLsbD 2 ^^
      r.getLsbD 1 ^^ r.getLsbD 0) ∧
    ((flagsOf r cy ac).p = true ↔ popcount r % 2 = 0)

/-- `Add8` (40_alu R132; its `Ac` without the carry-in is the spec's decision D22, log entry 15). -/
def Obligations.AddPrimitive : Prop :=
  ∀ (a b : Byte) (cin : Bool),
    (add8 a b cin).value.toNat = (a.toNat + b.toNat + cin.toNat) % 256 ∧
    ((add8 a b cin).flags.cy = true ↔ a.toNat + b.toNat + cin.toNat ≥ 256) ∧
    ((add8 a b cin).flags.ac = true ↔ a.toNat % 16 + b.toNat % 16 ≥ 16) ∧
    (add8 a b cin).flags =
      flagsOf (add8 a b cin).value (add8 a b cin).flags.cy (add8 a b cin).flags.ac

/-- `Sub8` and `Cmp8` (40_alu R133, R134; `Cy` as the borrow and `Ac` without the borrow-in are the spec's decisions
D21 and D22, log entry 15). -/
def Obligations.SubtractPrimitive : Prop :=
  ∀ (a b : Byte) (cin : Bool),
    (sub8 a b cin).value.toNat = (a.toNat + 512 - b.toNat - cin.toNat) % 256 ∧
    ((sub8 a b cin).flags.cy = true ↔ a.toNat < b.toNat + cin.toNat) ∧
    ((sub8 a b cin).flags.ac = true ↔ a.toNat % 16 < b.toNat % 16) ∧
    (sub8 a b cin).flags = flagsOf (sub8 a b cin).value (sub8 a b cin).flags.cy (sub8 a b cin).flags.ac ∧
    ((cmp8 a b).z = true ↔ a = b) ∧ ((cmp8 a b).cy = true ↔ a.toNat < b.toNat)

/-- `And8`, `Or8`, `Xor8`: bitwise, `Z S P` from the result, `Cy` and `Ac` cleared (40_alu R135, R136, R137). -/
def Obligations.LogicalPrimitives : Prop :=
  ∀ (a b : Byte),
    (∀ k, k < 8 → (and8 a b).value.getLsbD k = (a.getLsbD k && b.getLsbD k) ∧
      (or8 a b).value.getLsbD k = (a.getLsbD k || b.getLsbD k) ∧
      (xor8 a b).value.getLsbD k = (a.getLsbD k ^^ b.getLsbD k)) ∧
    (and8 a b).flags = flagsOf (and8 a b).value false false ∧ (or8 a b).flags = flagsOf (or8 a b).value false false ∧
    (xor8 a b).flags = flagsOf (xor8 a b).value false false ∧
    xor8 a a = ⟨0x00#8, ⟨true, false, true, false, false⟩⟩

/-- `Add16` and `Sub16`: the result is exact modulo 2^16 and `Cy` is the carry or borrow of the whole words (40_alu
R138, R139). -/
def Obligations.WordPrimitives : Prop :=
  ∀ (x y : Word) (cin : Bool),
    (add16 x y cin).value.toNat = (x.toNat + y.toNat + cin.toNat) % 65536 ∧
    ((add16 x y cin).flags.cy = true ↔ x.toNat + y.toNat + cin.toNat ≥ 65536) ∧
    (sub16 x y cin).value.toNat = (x.toNat + 131072 - y.toNat - cin.toNat) % 65536 ∧
    ((sub16 x y cin).flags.cy = true ↔ x.toNat < y.toNat + cin.toNat)

/-- The laws of the byte primitives: subtracting what was added gives the byte back (40_alu R140); the parity flag
after a logical operation, and how many bytes have it (40_alu R141). -/
def Obligations.BytePrimitiveLaws : Prop :=
  (∀ a b : Byte, (sub8 (add8 a b false).value b false).value = a) ∧
  (∀ a b : Byte,
    ((and8 a b).flags.p = true ↔ popcount (a &&& b) % 2 = 0) ∧
    ((or8 a b).flags.p = true ↔ popcount (a ||| b) % 2 = 0) ∧
    ((xor8 a b).flags.p = true ↔ popcount (a ^^^ b) % 2 = 0)) ∧
  ((List.range 256).filter (fun n => (or8 (BitVec.ofNat 8 n) 0#8).flags.p)).length = 128

/-- The flag byte, for every value of `FLAG_FIXED_BITS`: unpacking what was packed gives the flags back, packing what
was unpacked keeps the five modelled bits, the other three are the parameter's (10_state R31, R32; the positions are
the spec's decision D6). -/
def Obligations.FlagByteRoundTrip : Prop :=
  ∀ (fixed v : Byte) (f : Flags),
    unpackFlags (packFlagsWith fixed f) = f ∧
    packFlagsWith fixed (unpackFlags v) &&& 0xD5#8 = v &&& 0xD5#8 ∧
    packFlagsWith fixed f &&& 0x2A#8 = fixed &&& 0x2A#8 ∧
    (unpackFlags v = ⟨v.getLsbD 6, v.getLsbD 7, v.getLsbD 2, v.getLsbD 0, v.getLsbD 4⟩)

/-! ## What the instructions do -/

/-- `MOV` in its three forms (41_data_transfer R150, R151, R152), for every register operand. -/
def Obligations.MoveInstructions : Prop :=
  ∀ (s : State) (dst r : Reg8), dst ≠ .m → r ≠ .m →
    Runs (.movRR dst r) [0b01#2 ++ dst.code ++ r.code] s (reg8Write dst (reg8Read r s) s) (s.pc + 1) ∧
    Runs (.movRM dst) [0b01#2 ++ dst.code ++ 0b110#3] s (reg8Write dst (s.memRead1 s.regs.hl) s) (s.pc + 1) ∧
    Runs (.movMR r) [0b01110#5 ++ r.code] s (s.memWrite1 s.regs.hl (reg8Read r s)) (s.pc + 1)

/-- `MVI` and `LXI` (41_data_transfer R153, R154, R155). -/
def Obligations.ImmediateLoads : Prop :=
  ∀ (s : State) (r : Reg8) (pair : Pair) (d8 : Byte) (d16 : Word), r ≠ .m →
    Runs (.mviR r d8) [0b00#2 ++ r.code ++ 0b110#3, d8] s (reg8Write r d8 s) (s.pc + 2) ∧
    Runs (.mviM d8) [0x36, d8] s (s.memWrite1 s.regs.hl d8) (s.pc + 2) ∧
    Runs (.lxi pair d16) (bytes3 (0b00#2 ++ pair.code ++ 0b0001#4) d16) s (pairWrite pair d16 s) (s.pc + 3)

/-- `LDA`, `STA`, `LHLD`, `SHLD` (41_data_transfer R156 to R159). -/
def Obligations.DirectLoadsAndStores : Prop :=
  ∀ (s : State) (a16 : Word),
    Runs (.lda a16) (bytes3 0x3A a16) s (withA s (s.memRead1 a16)) (s.pc + 3) ∧
    Runs (.sta a16) (bytes3 0x32 a16) s (s.memWrite1 a16 s.regs.a) (s.pc + 3) ∧
    Runs (.lhld a16) (bytes3 0x2A a16) s
      { s with regs := { s.regs with l := s.memRead1 a16, h := s.memRead1 (a16 + 1) } } (s.pc + 3) ∧
    Runs (.shld a16) (bytes3 0x22 a16) s ((s.memWrite1 a16 s.regs.l).memWrite1 (a16 + 1) s.regs.h) (s.pc + 3)

/-- `LDAX`, `STAX`, `XCHG` (41_data_transfer R160, R161, R162). -/
def Obligations.IndirectAndExchange : Prop :=
  ∀ (s : State) (pair : Pair), pair = .bc ∨ pair = .de →
    Runs (.ldax pair) [0b00#2 ++ pair.code ++ 0b1010#4] s (withA s (s.memRead1 (pairRead pair s))) (s.pc + 1) ∧
    Runs (.stax pair) [0b00#2 ++ pair.code ++ 0b0010#4] s (s.memWrite1 (pairRead pair s) s.regs.a) (s.pc + 1) ∧
    Runs .xchg [0xEB] s
      { s with regs := { s.regs with d := s.regs.h, e := s.regs.l, h := s.regs.d, l := s.regs.e } } (s.pc + 1)

/-- `ADD`, `ADC`, `ADI`, `ACI` and their memory forms: `A` and all five flags by `Add8` (42_arithmetic R170 to R175). -/
def Obligations.AddInstructions : Prop :=
  ∀ (s : State) (r : Reg8) (d8 : Byte), r ≠ .m →
    Runs (.addR r) [0b10000#5 ++ r.code] s (accumulate s (add8 s.regs.a (reg8Read r s) false)) (s.pc + 1) ∧
    Runs .addM [0b10000110#8] s (accumulate s (add8 s.regs.a (s.memRead1 s.regs.hl) false)) (s.pc + 1) ∧
    Runs (.adi d8) [0b11000110#8, d8] s (accumulate s (add8 s.regs.a d8 false)) (s.pc + 2) ∧
    Runs (.adcR r) [0b10001#5 ++ r.code] s (accumulate s (add8 s.regs.a (reg8Read r s) s.flags.cy)) (s.pc + 1) ∧
    Runs .adcM [0b10001110#8] s (accumulate s (add8 s.regs.a (s.memRead1 s.regs.hl) s.flags.cy)) (s.pc + 1) ∧
    Runs (.aci d8) [0b11001110#8, d8] s (accumulate s (add8 s.regs.a d8 s.flags.cy)) (s.pc + 2)

/-- `SUB`, `SBB`, `SUI`, `SBI` and their memory forms: `A` and all five flags by `Sub8` (42_arithmetic R176 to R181).
`CMP`, `CPI`: the five flags `SUB` would leave, `A` kept (43_logical R199, R200, R201). -/
def Obligations.SubtractAndCompare : Prop :=
  ∀ (s : State) (r : Reg8) (d8 : Byte), r ≠ .m →
    Runs (.subR r) [0b10010#5 ++ r.code] s (accumulate s (sub8 s.regs.a (reg8Read r s) false)) (s.pc + 1) ∧
    Runs .subM [0b10010110#8] s (accumulate s (sub8 s.regs.a (s.memRead1 s.regs.hl) false)) (s.pc + 1) ∧
    Runs (.sui d8) [0b11010110#8, d8] s (accumulate s (sub8 s.regs.a d8 false)) (s.pc + 2) ∧
    Runs (.sbbR r) [0b10011#5 ++ r.code] s (accumulate s (sub8 s.regs.a (reg8Read r s) s.flags.cy)) (s.pc + 1) ∧
    Runs .sbbM [0b10011110#8] s (accumulate s (sub8 s.regs.a (s.memRead1 s.regs.hl) s.flags.cy)) (s.pc + 1) ∧
    Runs (.sbi d8) [0b11011110#8, d8] s (accumulate s (sub8 s.regs.a d8 s.flags.cy)) (s.pc + 2) ∧
    Runs (.cmpR r) [0b10111#5 ++ r.code] s { s with flags := (sub8 s.regs.a (reg8Read r s) false).flags } (s.pc + 1) ∧
    Runs .cmpM [0b10111110#8] s { s with flags := (sub8 s.regs.a (s.memRead1 s.regs.hl) false).flags } (s.pc + 1) ∧
    Runs (.cpi d8) [0b11111110#8, d8] s { s with flags := (sub8 s.regs.a d8 false).flags } (s.pc + 2)

/-- `ANA`, `XRA`, `ORA`, `ANI`, `XRI`, `ORI` and their memory forms (43_logical R190 to R198). -/
def Obligations.LogicalInstructions : Prop :=
  ∀ (s : State) (r : Reg8) (d8 : Byte), r ≠ .m →
    Runs (.anaR r) [0b10100#5 ++ r.code] s (accumulate s (and8 s.regs.a (reg8Read r s))) (s.pc + 1) ∧
    Runs .anaM [0b10100110#8] s (accumulate s (and8 s.regs.a (s.memRead1 s.regs.hl))) (s.pc + 1) ∧
    Runs (.ani d8) [0b11100110#8, d8] s (accumulate s (and8 s.regs.a d8)) (s.pc + 2) ∧
    Runs (.xraR r) [0b10101#5 ++ r.code] s (accumulate s (xor8 s.regs.a (reg8Read r s))) (s.pc + 1) ∧
    Runs .xraM [0b10101110#8] s (accumulate s (xor8 s.regs.a (s.memRead1 s.regs.hl))) (s.pc + 1) ∧
    Runs (.xri d8) [0b11101110#8, d8] s (accumulate s (xor8 s.regs.a d8)) (s.pc + 2) ∧
    Runs (.oraR r) [0b10110#5 ++ r.code] s (accumulate s (or8 s.regs.a (reg8Read r s))) (s.pc + 1) ∧
    Runs .oraM [0b10110110#8] s (accumulate s (or8 s.regs.a (s.memRead1 s.regs.hl))) (s.pc + 1) ∧
    Runs (.ori d8) [0b11110110#8, d8] s (accumulate s (or8 s.regs.a d8)) (s.pc + 2)

/-- `INR`, `DCR`: `Z S P Ac` by the primitive, `Cy` kept (42_arithmetic section 3;
the spec's decision D7, log entry 16). -/
def Obligations.IncrementAndDecrement : Prop :=
  ∀ (s : State) (r : Reg8), r ≠ .m →
    Runs (.inrR r) [0b00#2 ++ r.code ++ 0b100#3] s
      { reg8Write r (add8 (reg8Read r s) 1 false).value s with
        flags := { (add8 (reg8Read r s) 1 false).flags with cy := s.flags.cy } } (s.pc + 1) ∧
    Runs (.dcrR r) [0b00#2 ++ r.code ++ 0b101#3] s
      { reg8Write r (sub8 (reg8Read r s) 1 false).value s with
        flags := { (sub8 (reg8Read r s) 1 false).flags with cy := s.flags.cy } } (s.pc + 1) ∧
    Runs .inrM [0x34] s
      { s.memWrite1 s.regs.hl (add8 (s.memRead1 s.regs.hl) 1 false).value with
        flags := { (add8 (s.memRead1 s.regs.hl) 1 false).flags with cy := s.flags.cy } } (s.pc + 1) ∧
    Runs .dcrM [0x35] s
      { s.memWrite1 s.regs.hl (sub8 (s.memRead1 s.regs.hl) 1 false).value with
        flags := { (sub8 (s.memRead1 s.regs.hl) 1 false).flags with cy := s.flags.cy } } (s.pc + 1)

/-- `INX`, `DCX`: modulo 2^16, no flag (42_arithmetic R186, R187). -/
def Obligations.PairIncrementAndDecrement : Prop :=
  ∀ (s : State) (pair : Pair),
    Runs (.inx pair) [0b00#2 ++ pair.code ++ 0b0011#4] s
      (pairWrite pair (BitVec.ofNat 16 ((pairRead pair s).toNat + 1)) s) (s.pc + 1) ∧
    Runs (.dcx pair) [0b00#2 ++ pair.code ++ 0b1011#4] s
      (pairWrite pair (BitVec.ofNat 16 ((pairRead pair s).toNat + 65535)) s) (s.pc + 1)

/-- `DAD`: the 17-bit sum, `Cy` alone written (42_arithmetic section 4; the spec's decision D7, log entry 16). -/
def Obligations.DoubleAdd : Prop :=
  ∀ (s : State) (pair : Pair),
    Runs (.dad pair) [0b00#2 ++ pair.code ++ 0b1001#4] s
      (withCy (withHL s (BitVec.ofNat 16 (s.regs.hl.toNat + (pairRead pair s).toNat)))
        (decide (s.regs.hl.toNat + (pairRead pair s).toNat > 0xFFFF))) (s.pc + 1)

/-- `DAA` as 42_arithmetic R189 computes it: `A`, the correction of each nibble, the five flags. -/
def Obligations.DecimalAdjust : Prop :=
  ∀ s : State,
    let lo := s.regs.a.toNat % 16
    let hi := s.regs.a.toNat / 16
    let high : Prop := s.flags.cy = true ∨ hi > 9 ∨ (hi ≥ 9 ∧ lo > 9)
    let corr := (if s.flags.ac = true ∨ lo > 9 then 0x06 else 0x00) + (if high then 0x60 else 0x00)
    let r := BitVec.ofNat 8 (s.regs.a.toNat + corr)
    Runs .daa [0x27] s
      (accumulate s ⟨r, flagsOf r (decide high) (decide (lo + corr % 16 > 0xF))⟩) (s.pc + 1)

/-- `RLC`, `RRC`, `RAL`, `RAR`: `A` and `Cy`, no other flag; `CMA`, `CMC`, `STC` (43_logical R202 to R208). -/
def Obligations.RotateComplementCarry : Prop :=
  ∀ s : State,
    Runs .rlc [0x07] s (withCy (withA s (BitVec.ofNat 8 (2 * s.regs.a.toNat % 256 + s.regs.a.toNat / 128)))
      (decide (s.regs.a.toNat ≥ 128))) (s.pc + 1) ∧
    Runs .rrc [0x0F] s (withCy (withA s (BitVec.ofNat 8 (s.regs.a.toNat / 2 + 128 * (s.regs.a.toNat % 2))))
      (decide (s.regs.a.toNat % 2 = 1))) (s.pc + 1) ∧
    Runs .ral [0x17] s (withCy (withA s (BitVec.ofNat 8 (2 * s.regs.a.toNat % 256 + s.flags.cy.toNat)))
      (decide (s.regs.a.toNat ≥ 128))) (s.pc + 1) ∧
    Runs .rar [0x1F] s (withCy (withA s (BitVec.ofNat 8 (s.regs.a.toNat / 2 + 128 * s.flags.cy.toNat)))
      (decide (s.regs.a.toNat % 2 = 1))) (s.pc + 1) ∧
    Runs .cma [0x2F] s (withA s (BitVec.ofNat 8 (255 - s.regs.a.toNat))) (s.pc + 1) ∧
    Runs .cmc [0x3F] s (withCy s (!s.flags.cy)) (s.pc + 1) ∧
    Runs .stc [0x37] s (withCy s true) (s.pc + 1)

/-- `JMP`, the conditional jumps on `Z`, `Cy` and `P`, `PCHL` (44_branch R211 to R217, R239): only `pc` and the counters
change. `JP` and `JM` are in `SignConditions`. -/
def Obligations.JumpInstructions : Prop :=
  ∀ (s : State) (a16 : Word),
    Runs (.jmp a16) (bytes3 0xC3 a16) s s a16 ∧
    Runs (.jnz a16) (bytes3 0xC2 a16) s s (if s.flags.z = false then a16 else s.pc + 3) ∧
    Runs (.jz a16) (bytes3 0xCA a16) s s (if s.flags.z = true then a16 else s.pc + 3) ∧
    Runs (.jnc a16) (bytes3 0xD2 a16) s s (if s.flags.cy = false then a16 else s.pc + 3) ∧
    Runs (.jc a16) (bytes3 0xDA a16) s s (if s.flags.cy = true then a16 else s.pc + 3) ∧
    Runs (.jpo a16) (bytes3 0xE2 a16) s s (if s.flags.p = false then a16 else s.pc + 3) ∧
    Runs (.jpe a16) (bytes3 0xEA a16) s s (if s.flags.p = true then a16 else s.pc + 3) ∧
    Runs .pchl [0xE9] s s s.regs.hl

/-- `CALL`, the conditional calls on `Z`, `Cy` and `P`, `RST` (44_branch R220 to R226, R238): the address after the
instruction is pushed. `CP` and `CM` are in `SignConditions`. -/
def Obligations.CallInstructions : Prop :=
  ∀ (s : State) (a16 : Word) (n : BitVec 3),
    Runs (.call a16) (bytes3 0xCD a16) s (pushed s (s.pc + 3)) a16 ∧
    Runs (.cnz a16) (bytes3 0xC4 a16) s
      (if s.flags.z = false then pushed s (s.pc + 3) else s) (if s.flags.z = false then a16 else s.pc + 3) ∧
    Runs (.cz a16) (bytes3 0xCC a16) s
      (if s.flags.z = true then pushed s (s.pc + 3) else s) (if s.flags.z = true then a16 else s.pc + 3) ∧
    Runs (.cnc a16) (bytes3 0xD4 a16) s
      (if s.flags.cy = false then pushed s (s.pc + 3) else s) (if s.flags.cy = false then a16 else s.pc + 3) ∧
    Runs (.cc a16) (bytes3 0xDC a16) s
      (if s.flags.cy = true then pushed s (s.pc + 3) else s) (if s.flags.cy = true then a16 else s.pc + 3) ∧
    Runs (.cpo a16) (bytes3 0xE4 a16) s
      (if s.flags.p = false then pushed s (s.pc + 3) else s) (if s.flags.p = false then a16 else s.pc + 3) ∧
    Runs (.cpe a16) (bytes3 0xEC a16) s
      (if s.flags.p = true then pushed s (s.pc + 3) else s) (if s.flags.p = true then a16 else s.pc + 3) ∧
    Runs (.rst n) [0b11#2 ++ n ++ 0b111#3] s (pushed s (s.pc + 1)) (BitVec.ofNat 16 (8 * n.toNat))

/-- `RET` and the conditional returns on `Z`, `Cy` and `P` (44_branch R229 to R235): the word at `SP` is popped into
`pc`. `RP` and `RM` are in `SignConditions`. -/
def Obligations.ReturnInstructions : Prop :=
  ∀ s : State,
    Runs .ret [0xC9] s (popped s) (s.memRead2 s.sp) ∧
    Runs .rnz [0xC0] s
      (if s.flags.z = false then popped s else s) (if s.flags.z = false then s.memRead2 s.sp else s.pc + 1) ∧
    Runs .rz [0xC8] s
      (if s.flags.z = true then popped s else s) (if s.flags.z = true then s.memRead2 s.sp else s.pc + 1) ∧
    Runs .rnc [0xD0] s
      (if s.flags.cy = false then popped s else s) (if s.flags.cy = false then s.memRead2 s.sp else s.pc + 1) ∧
    Runs .rc [0xD8] s
      (if s.flags.cy = true then popped s else s) (if s.flags.cy = true then s.memRead2 s.sp else s.pc + 1) ∧
    Runs .rpo [0xE0] s
      (if s.flags.p = false then popped s else s) (if s.flags.p = false then s.memRead2 s.sp else s.pc + 1) ∧
    Runs .rpe [0xE8] s
      (if s.flags.p = true then popped s else s) (if s.flags.p = true then s.memRead2 s.sp else s.pc + 1)

/-- The conditional transfers on the sign flag: `P` (plus) holds when `S = 0`, `M` (minus) when `S = 1` (44_branch
sections 1 to 3; the polarity is the spec's decision D8, log entry 30). -/
def Obligations.SignConditions : Prop :=
  ∀ (s : State) (a16 : Word),
    Runs (.jp a16) (bytes3 0xF2 a16) s s (if s.flags.s = false then a16 else s.pc + 3) ∧
    Runs (.jm a16) (bytes3 0xFA a16) s s (if s.flags.s = true then a16 else s.pc + 3) ∧
    Runs (.cp a16) (bytes3 0xF4 a16) s
      (if s.flags.s = false then pushed s (s.pc + 3) else s) (if s.flags.s = false then a16 else s.pc + 3) ∧
    Runs (.cm a16) (bytes3 0xFC a16) s
      (if s.flags.s = true then pushed s (s.pc + 3) else s) (if s.flags.s = true then a16 else s.pc + 3) ∧
    Runs .rp [0xF0] s
      (if s.flags.s = false then popped s else s) (if s.flags.s = false then s.memRead2 s.sp else s.pc + 1) ∧
    Runs .rm [0xF8] s
      (if s.flags.s = true then popped s else s) (if s.flags.s = true then s.memRead2 s.sp else s.pc + 1)

/-- `PUSH rp`, `POP rp`, `POP PSW`, `XTHL`, `SPHL` (45_stack R240, R242 to R245). -/
def Obligations.StackInstructions : Prop :=
  ∀ (s : State) (pair : Pair), pair ≠ .sp →
    Runs (.push pair) [0b11#2 ++ pair.code ++ 0b0101#4] s (pushed s (pairRead pair s)) (s.pc + 1) ∧
    Runs (.pop pair) [0b11#2 ++ pair.code ++ 0b0001#4] s (popped (pairWrite pair (s.memRead2 s.sp) s)) (s.pc + 1) ∧
    Runs .popPsw [0xF1] s
      { s with
        regs := { s.regs with a := s.memRead1 (s.sp + 1) }
        flags := unpackFlags (s.memRead1 s.sp)
        sp := s.sp + 2 }
      (s.pc + 1) ∧
    Runs .xthl [0xE3] s (withHL (s.memWrite2 s.sp s.regs.hl) (s.memRead2 s.sp)) (s.pc + 1) ∧
    Runs .sphl [0xF9] s { s with sp := s.regs.hl } (s.pc + 1)

/-- `PUSH PSW`: `A` at `SP - 1`, the flag byte at `SP - 2`, with the parameter `FLAG_FIXED_BITS` in
bits 5, 3, 1 (45_stack section 1; the spec's decision D6, log entry 4). -/
def Obligations.PushStatusWord : Prop :=
  ∀ s : State,
    Runs .pushPsw [0xF5] s (pushed s (joinBytes s.regs.a (packFlagsWith config.flagFixedBits s.flags))) (s.pc + 1)

/-- `OUT`, `EI`, `DI`, `NOP` (45_stack R247, R248, R249, R251). -/
def Obligations.OutputAndControl : Prop :=
  ∀ (s : State) (p8 : Byte),
    Runs (.outPort p8) [0xD3, p8] s (s.portWrite p8 s.regs.a) (s.pc + 2) ∧
    Runs .ei [0xFB] s { s with pins := { s.pins with inte := true } } (s.pc + 1) ∧
    Runs .di [0xF3] s { s with pins := { s.pins with inte := false } } (s.pc + 1) ∧
    Runs .nop [0x00] s s (s.pc + 1)

/-- `IN`: `A` from the port, no flag (45_stack section 2; no device behind the port is the spec's decision D15, log
entry 12). `HLT`: a successful step that changes nothing but the counters (45_stack section 3; its cost and count are
the spec's decision D12, log entry 23). -/
def Obligations.InputAndHalt : Prop :=
  ∀ (s : State) (p8 : Byte),
    Runs (.inPort p8) [0xDB, p8] s (withA s (s.portRead p8)) (s.pc + 2) ∧
    Runs .hlt [0x76] s s s.pc

/-! ## Frames: what the instructions leave unchanged -/

/-- Every byte of memory is unchanged but those the instruction stores to (30_encoding R115). -/
def Obligations.MemoryFrame : Prop :=
  ∀ (i : Instr) (s t : State) (a : Word), s.Inv → exec i s = .next t → a ∉ storedAddresses i s →
    t.memRead1 a = s.memRead1 a

/-- Every register is unchanged but those the instruction writes, `SP` included (30_encoding R115). -/
def Obligations.RegisterFrame : Prop :=
  ∀ (i : Instr) (s t : State), exec i s = .next t →
    (∀ r : Reg8, r ≠ .m → r ∉ writtenRegisters i → reg8Read r t = reg8Read r s) ∧
    (writesSp i = false → t.sp = s.sp)

/-- Every flag is unchanged but those the instruction writes (10_state R30). -/
def Obligations.FlagFrame : Prop :=
  ∀ (i : Instr) (s t : State) (f : FlagName), exec i s = .next t → f ∉ writtenFlags i →
    hostReadFlag f t = hostReadFlag f s

/-- The pins change by `EI` and `DI` alone, the ports by `OUT` alone, the engine state by an illegal byte alone. -/
def Obligations.ControlFrame : Prop :=
  ∀ (i : Instr) (s t : State), i.wellFormed = true → exec i s = .next t →
    t.pins = pinsAfter i s.pins ∧ ((∀ p, i ≠ .outPort p) → t.ports = s.ports) ∧
    (i.legal = true → t.engine = s.engine)

/-! ## The disassembler -/

/-- `disassemble`: the number of extra bytes, the cost, and the placeholder for an illegal byte (30_encoding section 6;
70_reset section 4; the illegal bytes are the spec's decisions D4 and D24). -/
def Obligations.DisassemblyAgreesWithDecoder : Prop :=
  ∀ (s : State) (position : Word),
    (disassemble s position).length = extraBytes (s.memRead1 position) ∧
    (disassemble s position).cycles = config.cycles (s.memRead1 position) ∧
    (s.memRead1 position ∈ illegalBytes ↔ (disassemble s position).text = "NOT IMPLEMENTED")
end

