-- ==== Sys2Proof/Laws/State.lean ====
section
/-!
SUPPORT. One lemma per field per update of State, so that no proof unfolds a record update.
-/

namespace Sys2Proof.Machine

/-- Two states are equal when every field is. -/
@[ext] theorem State.eq_of_fields {s t : State} (regs : s.regs = t.regs) (sp : s.sp = t.sp) (pc : s.pc = t.pc)
    (flags : s.flags = t.flags) (pins : s.pins = t.pins) (mem : s.mem = t.mem) (ports : s.ports = t.ports)
    (cycles : s.cycles = t.cycles) (iter : s.iter = t.iter) (engine : s.engine = t.engine) : s = t := by
  cases s; cases t; simp_all

@[simp] theorem State.setRegs_regs (s : State) (r : Regs) : (s.setRegs r).regs = r := rfl
@[simp] theorem State.setRegs_sp (s : State) (r : Regs) : (s.setRegs r).sp = s.sp := rfl
@[simp] theorem State.setRegs_pc (s : State) (r : Regs) : (s.setRegs r).pc = s.pc := rfl
@[simp] theorem State.setRegs_flags (s : State) (r : Regs) : (s.setRegs r).flags = s.flags := rfl
@[simp] theorem State.setRegs_pins (s : State) (r : Regs) : (s.setRegs r).pins = s.pins := rfl
@[simp] theorem State.setRegs_mem (s : State) (r : Regs) : (s.setRegs r).mem = s.mem := rfl
@[simp] theorem State.setRegs_ports (s : State) (r : Regs) : (s.setRegs r).ports = s.ports := rfl
@[simp] theorem State.setRegs_cycles (s : State) (r : Regs) : (s.setRegs r).cycles = s.cycles := rfl
@[simp] theorem State.setRegs_iter (s : State) (r : Regs) : (s.setRegs r).iter = s.iter := rfl
@[simp] theorem State.setRegs_engine (s : State) (r : Regs) : (s.setRegs r).engine = s.engine := rfl

@[simp] theorem State.setSp_regs (s : State) (v : Word) : (s.setSp v).regs = s.regs := rfl
@[simp] theorem State.setSp_sp (s : State) (v : Word) : (s.setSp v).sp = v := rfl
@[simp] theorem State.setSp_pc (s : State) (v : Word) : (s.setSp v).pc = s.pc := rfl
@[simp] theorem State.setSp_flags (s : State) (v : Word) : (s.setSp v).flags = s.flags := rfl
@[simp] theorem State.setSp_pins (s : State) (v : Word) : (s.setSp v).pins = s.pins := rfl
@[simp] theorem State.setSp_mem (s : State) (v : Word) : (s.setSp v).mem = s.mem := rfl
@[simp] theorem State.setSp_ports (s : State) (v : Word) : (s.setSp v).ports = s.ports := rfl
@[simp] theorem State.setSp_cycles (s : State) (v : Word) : (s.setSp v).cycles = s.cycles := rfl
@[simp] theorem State.setSp_iter (s : State) (v : Word) : (s.setSp v).iter = s.iter := rfl
@[simp] theorem State.setSp_engine (s : State) (v : Word) : (s.setSp v).engine = s.engine := rfl

@[simp] theorem State.setPc_regs (s : State) (v : Word) : (s.setPc v).regs = s.regs := rfl
@[simp] theorem State.setPc_sp (s : State) (v : Word) : (s.setPc v).sp = s.sp := rfl
@[simp] theorem State.setPc_pc (s : State) (v : Word) : (s.setPc v).pc = v := rfl
@[simp] theorem State.setPc_flags (s : State) (v : Word) : (s.setPc v).flags = s.flags := rfl
@[simp] theorem State.setPc_pins (s : State) (v : Word) : (s.setPc v).pins = s.pins := rfl
@[simp] theorem State.setPc_mem (s : State) (v : Word) : (s.setPc v).mem = s.mem := rfl
@[simp] theorem State.setPc_ports (s : State) (v : Word) : (s.setPc v).ports = s.ports := rfl
@[simp] theorem State.setPc_cycles (s : State) (v : Word) : (s.setPc v).cycles = s.cycles := rfl
@[simp] theorem State.setPc_iter (s : State) (v : Word) : (s.setPc v).iter = s.iter := rfl
@[simp] theorem State.setPc_engine (s : State) (v : Word) : (s.setPc v).engine = s.engine := rfl

@[simp] theorem State.setFlags_regs (s : State) (f : Flags) : (s.setFlags f).regs = s.regs := rfl
@[simp] theorem State.setFlags_sp (s : State) (f : Flags) : (s.setFlags f).sp = s.sp := rfl
@[simp] theorem State.setFlags_pc (s : State) (f : Flags) : (s.setFlags f).pc = s.pc := rfl
@[simp] theorem State.setFlags_flags (s : State) (f : Flags) : (s.setFlags f).flags = f := rfl
@[simp] theorem State.setFlags_pins (s : State) (f : Flags) : (s.setFlags f).pins = s.pins := rfl
@[simp] theorem State.setFlags_mem (s : State) (f : Flags) : (s.setFlags f).mem = s.mem := rfl
@[simp] theorem State.setFlags_ports (s : State) (f : Flags) : (s.setFlags f).ports = s.ports := rfl
@[simp] theorem State.setFlags_cycles (s : State) (f : Flags) : (s.setFlags f).cycles = s.cycles := rfl
@[simp] theorem State.setFlags_iter (s : State) (f : Flags) : (s.setFlags f).iter = s.iter := rfl
@[simp] theorem State.setFlags_engine (s : State) (f : Flags) : (s.setFlags f).engine = s.engine := rfl

@[simp] theorem State.setPins_regs (s : State) (p : Pins) : (s.setPins p).regs = s.regs := rfl
@[simp] theorem State.setPins_sp (s : State) (p : Pins) : (s.setPins p).sp = s.sp := rfl
@[simp] theorem State.setPins_pc (s : State) (p : Pins) : (s.setPins p).pc = s.pc := rfl
@[simp] theorem State.setPins_flags (s : State) (p : Pins) : (s.setPins p).flags = s.flags := rfl
@[simp] theorem State.setPins_pins (s : State) (p : Pins) : (s.setPins p).pins = p := rfl
@[simp] theorem State.setPins_mem (s : State) (p : Pins) : (s.setPins p).mem = s.mem := rfl
@[simp] theorem State.setPins_ports (s : State) (p : Pins) : (s.setPins p).ports = s.ports := rfl
@[simp] theorem State.setPins_cycles (s : State) (p : Pins) : (s.setPins p).cycles = s.cycles := rfl
@[simp] theorem State.setPins_iter (s : State) (p : Pins) : (s.setPins p).iter = s.iter := rfl
@[simp] theorem State.setPins_engine (s : State) (p : Pins) : (s.setPins p).engine = s.engine := rfl

@[simp] theorem State.setMem_regs (s : State) (m : Memory) : (s.setMem m).regs = s.regs := rfl
@[simp] theorem State.setMem_sp (s : State) (m : Memory) : (s.setMem m).sp = s.sp := rfl
@[simp] theorem State.setMem_pc (s : State) (m : Memory) : (s.setMem m).pc = s.pc := rfl
@[simp] theorem State.setMem_flags (s : State) (m : Memory) : (s.setMem m).flags = s.flags := rfl
@[simp] theorem State.setMem_pins (s : State) (m : Memory) : (s.setMem m).pins = s.pins := rfl
@[simp] theorem State.setMem_mem (s : State) (m : Memory) : (s.setMem m).mem = m := rfl
@[simp] theorem State.setMem_ports (s : State) (m : Memory) : (s.setMem m).ports = s.ports := rfl
@[simp] theorem State.setMem_cycles (s : State) (m : Memory) : (s.setMem m).cycles = s.cycles := rfl
@[simp] theorem State.setMem_iter (s : State) (m : Memory) : (s.setMem m).iter = s.iter := rfl
@[simp] theorem State.setMem_engine (s : State) (m : Memory) : (s.setMem m).engine = s.engine := rfl

@[simp] theorem State.setPorts_regs (s : State) (m : Memory) : (s.setPorts m).regs = s.regs := rfl
@[simp] theorem State.setPorts_sp (s : State) (m : Memory) : (s.setPorts m).sp = s.sp := rfl
@[simp] theorem State.setPorts_pc (s : State) (m : Memory) : (s.setPorts m).pc = s.pc := rfl
@[simp] theorem State.setPorts_flags (s : State) (m : Memory) : (s.setPorts m).flags = s.flags := rfl
@[simp] theorem State.setPorts_pins (s : State) (m : Memory) : (s.setPorts m).pins = s.pins := rfl
@[simp] theorem State.setPorts_mem (s : State) (m : Memory) : (s.setPorts m).mem = s.mem := rfl
@[simp] theorem State.setPorts_ports (s : State) (m : Memory) : (s.setPorts m).ports = m := rfl
@[simp] theorem State.setPorts_cycles (s : State) (m : Memory) : (s.setPorts m).cycles = s.cycles := rfl
@[simp] theorem State.setPorts_iter (s : State) (m : Memory) : (s.setPorts m).iter = s.iter := rfl
@[simp] theorem State.setPorts_engine (s : State) (m : Memory) : (s.setPorts m).engine = s.engine := rfl

@[simp] theorem State.setEngine_regs (s : State) (e : Engine) : (s.setEngine e).regs = s.regs := rfl
@[simp] theorem State.setEngine_sp (s : State) (e : Engine) : (s.setEngine e).sp = s.sp := rfl
@[simp] theorem State.setEngine_pc (s : State) (e : Engine) : (s.setEngine e).pc = s.pc := rfl
@[simp] theorem State.setEngine_flags (s : State) (e : Engine) : (s.setEngine e).flags = s.flags := rfl
@[simp] theorem State.setEngine_pins (s : State) (e : Engine) : (s.setEngine e).pins = s.pins := rfl
@[simp] theorem State.setEngine_mem (s : State) (e : Engine) : (s.setEngine e).mem = s.mem := rfl
@[simp] theorem State.setEngine_ports (s : State) (e : Engine) : (s.setEngine e).ports = s.ports := rfl
@[simp] theorem State.setEngine_cycles (s : State) (e : Engine) : (s.setEngine e).cycles = s.cycles := rfl
@[simp] theorem State.setEngine_iter (s : State) (e : Engine) : (s.setEngine e).iter = s.iter := rfl
@[simp] theorem State.setEngine_engine (s : State) (e : Engine) : (s.setEngine e).engine = e := rfl

@[simp] theorem State.setA_regs (s : State) (v : Byte) : (s.setA v).regs = { s.regs with a := v } := rfl
@[simp] theorem State.setA_sp (s : State) (v : Byte) : (s.setA v).sp = s.sp := rfl
@[simp] theorem State.setA_pc (s : State) (v : Byte) : (s.setA v).pc = s.pc := rfl
@[simp] theorem State.setA_flags (s : State) (v : Byte) : (s.setA v).flags = s.flags := rfl
@[simp] theorem State.setA_pins (s : State) (v : Byte) : (s.setA v).pins = s.pins := rfl
@[simp] theorem State.setA_mem (s : State) (v : Byte) : (s.setA v).mem = s.mem := rfl
@[simp] theorem State.setA_ports (s : State) (v : Byte) : (s.setA v).ports = s.ports := rfl
@[simp] theorem State.setA_cycles (s : State) (v : Byte) : (s.setA v).cycles = s.cycles := rfl
@[simp] theorem State.setA_iter (s : State) (v : Byte) : (s.setA v).iter = s.iter := rfl
@[simp] theorem State.setA_engine (s : State) (v : Byte) : (s.setA v).engine = s.engine := rfl

@[simp] theorem State.setCy_regs (s : State) (v : Bool) : (s.setCy v).regs = s.regs := rfl
@[simp] theorem State.setCy_sp (s : State) (v : Bool) : (s.setCy v).sp = s.sp := rfl
@[simp] theorem State.setCy_pc (s : State) (v : Bool) : (s.setCy v).pc = s.pc := rfl
@[simp] theorem State.setCy_flags (s : State) (v : Bool) : (s.setCy v).flags = { s.flags with cy := v } := rfl
@[simp] theorem State.setCy_pins (s : State) (v : Bool) : (s.setCy v).pins = s.pins := rfl
@[simp] theorem State.setCy_mem (s : State) (v : Bool) : (s.setCy v).mem = s.mem := rfl
@[simp] theorem State.setCy_ports (s : State) (v : Bool) : (s.setCy v).ports = s.ports := rfl
@[simp] theorem State.setCy_cycles (s : State) (v : Bool) : (s.setCy v).cycles = s.cycles := rfl
@[simp] theorem State.setCy_iter (s : State) (v : Bool) : (s.setCy v).iter = s.iter := rfl
@[simp] theorem State.setCy_engine (s : State) (v : Bool) : (s.setCy v).engine = s.engine := rfl

@[simp] theorem State.setInte_regs (s : State) (v : Bool) : (s.setInte v).regs = s.regs := rfl
@[simp] theorem State.setInte_sp (s : State) (v : Bool) : (s.setInte v).sp = s.sp := rfl
@[simp] theorem State.setInte_pc (s : State) (v : Bool) : (s.setInte v).pc = s.pc := rfl
@[simp] theorem State.setInte_flags (s : State) (v : Bool) : (s.setInte v).flags = s.flags := rfl
@[simp] theorem State.setInte_pins (s : State) (v : Bool) : (s.setInte v).pins = { s.pins with inte := v } := rfl
@[simp] theorem State.setInte_mem (s : State) (v : Bool) : (s.setInte v).mem = s.mem := rfl
@[simp] theorem State.setInte_ports (s : State) (v : Bool) : (s.setInte v).ports = s.ports := rfl
@[simp] theorem State.setInte_cycles (s : State) (v : Bool) : (s.setInte v).cycles = s.cycles := rfl
@[simp] theorem State.setInte_iter (s : State) (v : Bool) : (s.setInte v).iter = s.iter := rfl
@[simp] theorem State.setInte_engine (s : State) (v : Bool) : (s.setInte v).engine = s.engine := rfl

@[simp] theorem State.memWrite1_regs (s : State) (addr : Word) (v : Byte) : (s.memWrite1 addr v).regs = s.regs := rfl
@[simp] theorem State.memWrite1_sp (s : State) (addr : Word) (v : Byte) : (s.memWrite1 addr v).sp = s.sp := rfl
@[simp] theorem State.memWrite1_pc (s : State) (addr : Word) (v : Byte) : (s.memWrite1 addr v).pc = s.pc := rfl
@[simp] theorem State.memWrite1_flags (s : State) (addr : Word) (v : Byte) : (s.memWrite1 addr v).flags = s.flags := rfl
@[simp] theorem State.memWrite1_pins (s : State) (addr : Word) (v : Byte) : (s.memWrite1 addr v).pins = s.pins := rfl
@[simp] theorem State.memWrite1_mem (s : State) (addr : Word) (v : Byte) : (s.memWrite1 addr v).mem = Memory.write s.mem addr.toNat v := rfl
@[simp] theorem State.memWrite1_ports (s : State) (addr : Word) (v : Byte) : (s.memWrite1 addr v).ports = s.ports := rfl
@[simp] theorem State.memWrite1_cycles (s : State) (addr : Word) (v : Byte) : (s.memWrite1 addr v).cycles = s.cycles := rfl
@[simp] theorem State.memWrite1_iter (s : State) (addr : Word) (v : Byte) : (s.memWrite1 addr v).iter = s.iter := rfl
@[simp] theorem State.memWrite1_engine (s : State) (addr : Word) (v : Byte) : (s.memWrite1 addr v).engine = s.engine := rfl

@[simp] theorem State.memWrite2_regs (s : State) (addr : Word) (v : Word) : (s.memWrite2 addr v).regs = s.regs := rfl
@[simp] theorem State.memWrite2_sp (s : State) (addr : Word) (v : Word) : (s.memWrite2 addr v).sp = s.sp := rfl
@[simp] theorem State.memWrite2_pc (s : State) (addr : Word) (v : Word) : (s.memWrite2 addr v).pc = s.pc := rfl
@[simp] theorem State.memWrite2_flags (s : State) (addr : Word) (v : Word) : (s.memWrite2 addr v).flags = s.flags := rfl
@[simp] theorem State.memWrite2_pins (s : State) (addr : Word) (v : Word) : (s.memWrite2 addr v).pins = s.pins := rfl
@[simp] theorem State.memWrite2_mem (s : State) (addr : Word) (v : Word) : (s.memWrite2 addr v).mem = Memory.write (Memory.write s.mem addr.toNat (lowByte v)) (addr + 1).toNat (highByte v) := rfl
@[simp] theorem State.memWrite2_ports (s : State) (addr : Word) (v : Word) : (s.memWrite2 addr v).ports = s.ports := rfl
@[simp] theorem State.memWrite2_cycles (s : State) (addr : Word) (v : Word) : (s.memWrite2 addr v).cycles = s.cycles := rfl
@[simp] theorem State.memWrite2_iter (s : State) (addr : Word) (v : Word) : (s.memWrite2 addr v).iter = s.iter := rfl
@[simp] theorem State.memWrite2_engine (s : State) (addr : Word) (v : Word) : (s.memWrite2 addr v).engine = s.engine := rfl

@[simp] theorem State.portWrite_regs (s : State) (p : Byte) (v : Byte) : (s.portWrite p v).regs = s.regs := rfl
@[simp] theorem State.portWrite_sp (s : State) (p : Byte) (v : Byte) : (s.portWrite p v).sp = s.sp := rfl
@[simp] theorem State.portWrite_pc (s : State) (p : Byte) (v : Byte) : (s.portWrite p v).pc = s.pc := rfl
@[simp] theorem State.portWrite_flags (s : State) (p : Byte) (v : Byte) : (s.portWrite p v).flags = s.flags := rfl
@[simp] theorem State.portWrite_pins (s : State) (p : Byte) (v : Byte) : (s.portWrite p v).pins = s.pins := rfl
@[simp] theorem State.portWrite_mem (s : State) (p : Byte) (v : Byte) : (s.portWrite p v).mem = s.mem := rfl
@[simp] theorem State.portWrite_ports (s : State) (p : Byte) (v : Byte) : (s.portWrite p v).ports = Memory.write s.ports p.toNat v := rfl
@[simp] theorem State.portWrite_cycles (s : State) (p : Byte) (v : Byte) : (s.portWrite p v).cycles = s.cycles := rfl
@[simp] theorem State.portWrite_iter (s : State) (p : Byte) (v : Byte) : (s.portWrite p v).iter = s.iter := rfl
@[simp] theorem State.portWrite_engine (s : State) (p : Byte) (v : Byte) : (s.portWrite p v).engine = s.engine := rfl

@[simp] theorem State.push16_regs (s : State) (v : Word) : (s.push16 v).regs = s.regs := rfl
@[simp] theorem State.push16_sp (s : State) (v : Word) : (s.push16 v).sp = s.pushAddress := rfl
@[simp] theorem State.push16_pc (s : State) (v : Word) : (s.push16 v).pc = s.pc := rfl
@[simp] theorem State.push16_flags (s : State) (v : Word) : (s.push16 v).flags = s.flags := rfl
@[simp] theorem State.push16_pins (s : State) (v : Word) : (s.push16 v).pins = s.pins := rfl
@[simp] theorem State.push16_mem (s : State) (v : Word) : (s.push16 v).mem = (s.memWrite2 s.pushAddress v).mem := rfl
@[simp] theorem State.push16_ports (s : State) (v : Word) : (s.push16 v).ports = s.ports := rfl
@[simp] theorem State.push16_cycles (s : State) (v : Word) : (s.push16 v).cycles = s.cycles := rfl
@[simp] theorem State.push16_iter (s : State) (v : Word) : (s.push16 v).iter = s.iter := rfl
@[simp] theorem State.push16_engine (s : State) (v : Word) : (s.push16 v).engine = s.engine := rfl

@[simp] theorem State.dropTop_regs (s : State) : (s.dropTop).regs = s.regs := rfl
@[simp] theorem State.dropTop_sp (s : State) : (s.dropTop).sp = s.sp + 2 := rfl
@[simp] theorem State.dropTop_pc (s : State) : (s.dropTop).pc = s.pc := rfl
@[simp] theorem State.dropTop_flags (s : State) : (s.dropTop).flags = s.flags := rfl
@[simp] theorem State.dropTop_pins (s : State) : (s.dropTop).pins = s.pins := rfl
@[simp] theorem State.dropTop_mem (s : State) : (s.dropTop).mem = s.mem := rfl
@[simp] theorem State.dropTop_ports (s : State) : (s.dropTop).ports = s.ports := rfl
@[simp] theorem State.dropTop_cycles (s : State) : (s.dropTop).cycles = s.cycles := rfl
@[simp] theorem State.dropTop_iter (s : State) : (s.dropTop).iter = s.iter := rfl
@[simp] theorem State.dropTop_engine (s : State) : (s.dropTop).engine = s.engine := rfl

@[simp] theorem State.commitA_regs (s : State) (r : AluResult 8) : (s.commitA r).regs = { s.regs with a := r.value } := rfl
@[simp] theorem State.commitA_sp (s : State) (r : AluResult 8) : (s.commitA r).sp = s.sp := rfl
@[simp] theorem State.commitA_pc (s : State) (r : AluResult 8) : (s.commitA r).pc = s.pc := rfl
@[simp] theorem State.commitA_flags (s : State) (r : AluResult 8) : (s.commitA r).flags = r.flags := rfl
@[simp] theorem State.commitA_pins (s : State) (r : AluResult 8) : (s.commitA r).pins = s.pins := rfl
@[simp] theorem State.commitA_mem (s : State) (r : AluResult 8) : (s.commitA r).mem = s.mem := rfl
@[simp] theorem State.commitA_ports (s : State) (r : AluResult 8) : (s.commitA r).ports = s.ports := rfl
@[simp] theorem State.commitA_cycles (s : State) (r : AluResult 8) : (s.commitA r).cycles = s.cycles := rfl
@[simp] theorem State.commitA_iter (s : State) (r : AluResult 8) : (s.commitA r).iter = s.iter := rfl
@[simp] theorem State.commitA_engine (s : State) (r : AluResult 8) : (s.commitA r).engine = s.engine := rfl

@[simp] theorem State.retire_regs (s : State) (i : Instr) (target : Word) : (s.retire i target).regs = s.regs := rfl
@[simp] theorem State.retire_sp (s : State) (i : Instr) (target : Word) : (s.retire i target).sp = s.sp := rfl
@[simp] theorem State.retire_pc (s : State) (i : Instr) (target : Word) : (s.retire i target).pc = target := rfl
@[simp] theorem State.retire_flags (s : State) (i : Instr) (target : Word) : (s.retire i target).flags = s.flags := rfl
@[simp] theorem State.retire_pins (s : State) (i : Instr) (target : Word) : (s.retire i target).pins = s.pins := rfl
@[simp] theorem State.retire_mem (s : State) (i : Instr) (target : Word) : (s.retire i target).mem = s.mem := rfl
@[simp] theorem State.retire_ports (s : State) (i : Instr) (target : Word) : (s.retire i target).ports = s.ports := rfl
@[simp] theorem State.retire_cycles (s : State) (i : Instr) (target : Word) : (s.retire i target).cycles = s.cycles + i.cost := rfl
@[simp] theorem State.retire_iter (s : State) (i : Instr) (target : Word) : (s.retire i target).iter = s.iter + 1 := rfl
@[simp] theorem State.retire_engine (s : State) (i : Instr) (target : Word) : (s.retire i target).engine = s.engine := rfl

end Sys2Proof.Machine
end

