-- ==== Sys2Proof/Laws/Memory.lean ====
section
/-!
SUPPORT. The laws of the byte stores: every operation keeps the canonical form, a read after a write to the same
address gives the byte written, and a write leaves every other address alone.
-/

namespace Sys2Proof.Machine

theorem Memory.wfBelow_nil (bound : Nat) : Memory.wfBelow bound [] := ⟨List.Pairwise.nil, by simp⟩

theorem Memory.wfBelow_cons {bound k : Nat} {v : Byte} {rest : Memory} :
    Memory.wfBelow bound ((k, v) :: rest) ↔
      k < bound ∧ v ≠ Memory.unlisted ∧ (∀ cell ∈ rest, k < cell.1) ∧ Memory.wfBelow bound rest := by
  simp only [Memory.wfBelow, List.pairwise_cons, List.forall_mem_cons]
  tauto

/-- A write adds no address but its own. -/
theorem Memory.mem_write {m : Memory} {k : Nat} {v : Byte} {cell : Host.Cell} (h : cell ∈ Memory.write m k v) :
    cell = (k, v) ∨ cell ∈ m := by
  induction m with
  | nil => simp only [Memory.write, Memory.consCell] at h; split at h <;> simp_all
  | cons head rest ih =>
    obtain ⟨k', v'⟩ := head
    simp only [Memory.write, Memory.consCell] at h
    split at h
    · split at h <;> simp_all
    · split at h
      · split at h <;> simp_all; tauto
      · rcases List.mem_cons.mp h with rfl | h'
        · simp
        · rcases ih h' with rfl | h'' <;> simp_all

theorem Memory.consCell_wfBelow {bound k : Nat} {v : Byte} {rest : Memory} (hk : k < bound)
    (lt : ∀ cell ∈ rest, k < cell.1) (wf : Memory.wfBelow bound rest) :
    Memory.wfBelow bound (Memory.consCell k v rest) := by
  unfold Memory.consCell
  split
  · exact wf
  · exact Memory.wfBelow_cons.mpr ⟨hk, by assumption, lt, wf⟩

/-- A write below the bound keeps the canonical form. -/
theorem Memory.write_wfBelow {bound : Nat} {m : Memory} {k : Nat} (v : Byte) (hk : k < bound)
    (wf : Memory.wfBelow bound m) : Memory.wfBelow bound (Memory.write m k v) := by
  induction m with
  | nil => exact Memory.consCell_wfBelow hk (by simp) wf
  | cons head rest ih =>
    obtain ⟨k', v'⟩ := head
    obtain ⟨hk', hv', lt, wfr⟩ := Memory.wfBelow_cons.mp wf
    simp only [Memory.write]
    split
    · rename_i hlt
      refine Memory.consCell_wfBelow hk ?_ wf
      intro cell hc
      rcases List.mem_cons.mp hc with rfl | hc'
      · exact hlt
      · exact Nat.lt_trans hlt (lt cell hc')
    · split
      · subst_vars
        exact Memory.consCell_wfBelow hk lt wfr
      · refine Memory.wfBelow_cons.mpr ⟨hk', hv', ?_, ih wfr⟩
        intro cell hc
        rcases Memory.mem_write hc with rfl | hc'
        · show k' < k
          omega
        · exact lt cell hc'

/-- An address that every listed address exceeds is not listed. -/
theorem Memory.read_of_lt {m : Memory} {k : Nat} (lt : ∀ cell ∈ m, k < cell.1) :
    Memory.read m k = Memory.unlisted := by
  induction m with
  | nil => rfl
  | cons head rest ih =>
    obtain ⟨k', v'⟩ := head
    have hne : k' ≠ k := Nat.ne_of_gt (lt (k', v') (by simp))
    simp only [Memory.read, if_neg hne]
    exact ih fun cell hc => lt cell (List.mem_cons_of_mem _ hc)

theorem Memory.read_consCell {k j : Nat} {v : Byte} {rest : Memory} (lt : ∀ cell ∈ rest, k < cell.1) :
    Memory.read (Memory.consCell k v rest) j = if j = k then v else Memory.read rest j := by
  unfold Memory.consCell
  by_cases hv : v = Memory.unlisted
  · rw [if_pos hv]
    split
    · subst_vars
      exact Memory.read_of_lt lt
    · rfl
  · rw [if_neg hv]
    simp only [Memory.read, eq_comm]

/-- Reading after a write: the byte written at its address, every other byte as before. -/
theorem Memory.read_write {bound : Nat} {m : Memory} {k : Nat} (v : Byte) (j : Nat) (wf : Memory.wfBelow bound m) :
    Memory.read (Memory.write m k v) j = if j = k then v else Memory.read m j := by
  induction m with
  | nil => exact Memory.read_consCell (by simp)
  | cons head rest ih =>
    obtain ⟨k', v'⟩ := head
    obtain ⟨-, -, lt, wfr⟩ := Memory.wfBelow_cons.mp wf
    simp only [Memory.write]
    split
    · rename_i hlt
      rw [Memory.read_consCell]
      intro cell hc
      rcases List.mem_cons.mp hc with rfl | hc'
      · exact hlt
      · exact Nat.lt_trans hlt (lt cell hc')
    · split
      · subst_vars
        rw [Memory.read_consCell lt]
        split
        · rfl
        · simp only [Memory.read]
          rw [if_neg (by omega)]
      · simp only [Memory.read, ih wfr]
        split <;> split <;> first | rfl | omega

/-! ## The state's accesses -/

theorem State.memWrite1_inv {s : State} (addr : Word) (v : Byte) (h : s.Inv) : (s.memWrite1 addr v).Inv :=
  ⟨Memory.write_wfBelow v addr.isLt h.1, h.2⟩

theorem State.memWrite2_inv {s : State} (addr v : Word) (h : s.Inv) : (s.memWrite2 addr v).Inv :=
  State.memWrite1_inv _ _ (State.memWrite1_inv _ _ h)

theorem State.portWrite_inv {s : State} (p v : Byte) (h : s.Inv) : (s.portWrite p v).Inv :=
  ⟨h.1, Memory.write_wfBelow v p.isLt h.2⟩

theorem State.storeBytes_inv {s : State} (addr : Word) (bytes : List Byte) (h : s.Inv) :
    (s.storeBytes addr bytes).Inv := by
  induction bytes generalizing s addr with
  | nil => exact h
  | cons v rest ih => exact ih (addr + 1) (State.memWrite1_inv addr v h)

/-- The form of memory depends on the two stores alone. -/
theorem State.inv_of_eq {s t : State} (hm : t.mem = s.mem) (hp : t.ports = s.ports) (h : s.Inv) : t.Inv := by
  unfold State.Inv
  rw [hm, hp]
  exact h

theorem State.reset_mem_wf : Memory.wf State.reset.mem := Memory.wfBelow_nil 65536

/-- The two addresses of a word are distinct, also at 0xFFFF (20_memory R65). -/
theorem word_addresses_ne (addr : Word) : (addr + 1).toNat ≠ addr.toNat := by bv_omega

end Sys2Proof.Machine
end

