-- ==== Sys2Proof/Laws/Ops.lean ====
section
/-!
SUPPORT. What the shared operations can do, said once: the ends of a step, taking a fault, the selector writes, the
byte order helpers.
-/

namespace Sys2Proof

@[simp] theorem highByte_joinBytes (h l : Byte) : highByte (joinBytes h l) = h := by
  simp only [highByte, joinBytes]; exact BitVec.extractLsb'_append_eq_left

@[simp] theorem lowByte_joinBytes (h l : Byte) : lowByte (joinBytes h l) = l := by
  simp only [lowByte, joinBytes]; exact BitVec.extractLsb'_append_eq_right

@[simp] theorem joinBytes_high_low (w : Word) : joinBytes (highByte w) (lowByte w) = w := by
  unfold joinBytes highByte lowByte
  ext i hi
  simp only [BitVec.getElem_append, BitVec.getElem_extractLsb']
  split
  · simp [BitVec.getLsbD_eq_getElem hi]
  · rw [← BitVec.getLsbD_eq_getElem hi]; congr 1; omega

theorem joinBytes_toNat (h l : Byte) : (joinBytes h l).toNat = h.toNat * 256 + l.toNat := by
  simp only [joinBytes, BitVec.toNat_append]
  rw [← Nat.shiftLeft_add_eq_or_of_lt l.isLt, Nat.shiftLeft_eq]

theorem highByte_toNat (w : Word) : (highByte w).toNat = w.toNat / 256 := by
  have := w.isLt
  simp only [highByte, BitVec.extractLsb'_toNat, Nat.shiftRight_eq_div_pow]
  omega

theorem lowByte_toNat (w : Word) : (lowByte w).toNat = w.toNat % 256 := by
  simp only [lowByte, BitVec.extractLsb'_toNat, Nat.shiftRight_zero]

end Sys2Proof

namespace Sys2Proof.Machine

/-! ## The ends of a step -/

/-- `COUNTER_WIDTH` unbounded: the counter is exact. -/
@[simp] theorem addCounter_none (count n : Nat) : addCounter none count n = count + n := rfl

@[simp] theorem config_counterWidth : config.counterWidth = none := rfl

/-- `COUNTER_WIDTH` bounded: the counter stays in its width. -/
theorem addCounter_some_lt (bits count n : Nat) : addCounter (some bits) count n < 2 ^ bits :=
  Nat.mod_lt _ (Nat.two_pow_pos bits)

@[simp] theorem completeAt_eq (i : Instr) (target : Word) (s : State) :
    completeAt i target s = .next (s.retire i target) := rfl

@[simp] theorem complete_eq (i : Instr) (s : State) : complete i s = .next (s.retire i (s.npc i)) := rfl

@[simp] theorem raiseFault_eq (i : Instr) (cause : Cause) (s : State) :
    raiseFault i cause s = .next (s.setEngine (.faulted (faultRecord i cause s.pc))) := rfl

/-- An allowed selector: the instruction completes. -/
theorem completeValid_of_wellFormed {i : Instr} (h : i.wellFormed = true) (s done : State) :
    completeValid i s done = .next (done.retire i (done.npc i)) := by
  unfold completeValid; rw [h]; rfl

/-- A selector that is not allowed: the fault InvalidSelector. -/
theorem completeValid_of_not_wellFormed {i : Instr} (h : i.wellFormed = false) (s done : State) :
    completeValid i s done = .next (s.setEngine (.faulted (faultRecord i .invalidSelector s.pc))) := by
  unfold completeValid; rw [h]; rfl

/-- Everything `completeValid` can do. -/
theorem completeValid_cases {i : Instr} {s done t : State} (h : completeValid i s done = .next t) :
    (i.wellFormed = true ∧ t = done.retire i (done.npc i)) ∨
      (i.wellFormed = false ∧ t = s.setEngine (.faulted (faultRecord i .invalidSelector s.pc))) := by
  cases hw : i.wellFormed with
  | true => rw [completeValid_of_wellFormed hw] at h; injection h with h; exact .inl ⟨rfl, h.symm⟩
  | false => rw [completeValid_of_not_wellFormed hw] at h; injection h with h; exact .inr ⟨rfl, h.symm⟩

/-! ## The shared rules of the conditional transfers -/

/-- Everything a conditional jump can do. -/
theorem jumpIf_cases {i : Instr} {cond : Cond} {a16 : Word} {s t : State} (h : jumpIf i cond a16 s = .next t) :
    (condHolds cond s.flags = true ∧ t = s.retire i a16) ∨
      (condHolds cond s.flags = false ∧ t = s.retire i (s.npc i)) := by
  cases hc : condHolds cond s.flags <;> simp only [jumpIf, hc] at h <;> injection h with h
  · exact .inr ⟨rfl, h.symm⟩
  · exact .inl ⟨rfl, h.symm⟩

/-- Everything a conditional call can do. -/
theorem callIf_cases {i : Instr} {cond : Cond} {a16 : Word} {s t : State} (h : callIf i cond a16 s = .next t) :
    (condHolds cond s.flags = true ∧ t = (s.push16 (s.npc i)).retire i a16) ∨
      (condHolds cond s.flags = false ∧ t = s.retire i (s.npc i)) := by
  cases hc : condHolds cond s.flags <;> simp only [callIf, hc] at h <;> injection h with h
  · exact .inr ⟨rfl, h.symm⟩
  · exact .inl ⟨rfl, h.symm⟩

/-- Everything a conditional return can do. -/
theorem returnIf_cases {i : Instr} {cond : Cond} {s t : State} (h : returnIf i cond s = .next t) :
    (condHolds cond s.flags = true ∧ t = s.dropTop.retire i s.stackTop) ∨
      (condHolds cond s.flags = false ∧ t = s.retire i (s.npc i)) := by
  cases hc : condHolds cond s.flags <;> simp only [returnIf, hc] at h <;> injection h with h
  · exact .inr ⟨rfl, h.symm⟩
  · exact .inl ⟨rfl, h.symm⟩

/-! ## Selector writes -/

theorem reg8Write_regs_of_m (v : Byte) (s : State) : (reg8Write .m v s).regs = s.regs := rfl

/-- A write to a register leaves memory alone. -/
theorem reg8Write_mem {r : Reg8} (h : r ≠ .m) (v : Byte) (s : State) : (reg8Write r v s).mem = s.mem := by
  cases r <;> first | rfl | exact absurd rfl h

@[simp] theorem reg8Write_sp (r : Reg8) (v : Byte) (s : State) : (reg8Write r v s).sp = s.sp := by
  cases r <;> rfl

@[simp] theorem reg8Write_pc (r : Reg8) (v : Byte) (s : State) : (reg8Write r v s).pc = s.pc := by
  cases r <;> rfl

@[simp] theorem reg8Write_flags (r : Reg8) (v : Byte) (s : State) : (reg8Write r v s).flags = s.flags := by
  cases r <;> rfl

@[simp] theorem reg8Write_pins (r : Reg8) (v : Byte) (s : State) : (reg8Write r v s).pins = s.pins := by
  cases r <;> rfl

@[simp] theorem reg8Write_ports (r : Reg8) (v : Byte) (s : State) : (reg8Write r v s).ports = s.ports := by
  cases r <;> rfl

@[simp] theorem reg8Write_cycles (r : Reg8) (v : Byte) (s : State) : (reg8Write r v s).cycles = s.cycles := by
  cases r <;> rfl

@[simp] theorem reg8Write_iter (r : Reg8) (v : Byte) (s : State) : (reg8Write r v s).iter = s.iter := by
  cases r <;> rfl

@[simp] theorem reg8Write_engine (r : Reg8) (v : Byte) (s : State) : (reg8Write r v s).engine = s.engine := by
  cases r <;> rfl

@[simp] theorem pairWrite_pc (pair : Pair) (v : Word) (s : State) : (pairWrite pair v s).pc = s.pc := by
  cases pair <;> rfl

@[simp] theorem pairWrite_flags (pair : Pair) (v : Word) (s : State) : (pairWrite pair v s).flags = s.flags := by
  cases pair <;> rfl

@[simp] theorem pairWrite_pins (pair : Pair) (v : Word) (s : State) : (pairWrite pair v s).pins = s.pins := by
  cases pair <;> rfl

@[simp] theorem pairWrite_ports (pair : Pair) (v : Word) (s : State) : (pairWrite pair v s).ports = s.ports := by
  cases pair <;> rfl

@[simp] theorem pairWrite_cycles (pair : Pair) (v : Word) (s : State) : (pairWrite pair v s).cycles = s.cycles := by
  cases pair <;> rfl

@[simp] theorem pairWrite_iter (pair : Pair) (v : Word) (s : State) : (pairWrite pair v s).iter = s.iter := by
  cases pair <;> rfl

@[simp] theorem pairWrite_engine (pair : Pair) (v : Word) (s : State) : (pairWrite pair v s).engine = s.engine := by
  cases pair <;> rfl

@[simp] theorem pairWrite_mem (pair : Pair) (v : Word) (s : State) : (pairWrite pair v s).mem = s.mem := by
  cases pair <;> rfl

@[simp] theorem State.commitKeepCy_sp (s : State) (r : Reg8) (v : AluResult 8) :
    (s.commitKeepCy r v).sp = s.sp := by
  cases r <;> rfl

@[simp] theorem State.commitKeepCy_pc (s : State) (r : Reg8) (v : AluResult 8) :
    (s.commitKeepCy r v).pc = s.pc := by
  cases r <;> rfl

@[simp] theorem State.commitKeepCy_pins (s : State) (r : Reg8) (v : AluResult 8) :
    (s.commitKeepCy r v).pins = s.pins := by
  cases r <;> rfl

@[simp] theorem State.commitKeepCy_ports (s : State) (r : Reg8) (v : AluResult 8) :
    (s.commitKeepCy r v).ports = s.ports := by
  cases r <;> rfl

@[simp] theorem State.commitKeepCy_cycles (s : State) (r : Reg8) (v : AluResult 8) :
    (s.commitKeepCy r v).cycles = s.cycles := by
  cases r <;> rfl

@[simp] theorem State.commitKeepCy_iter (s : State) (r : Reg8) (v : AluResult 8) :
    (s.commitKeepCy r v).iter = s.iter := by
  cases r <;> rfl

@[simp] theorem State.commitKeepCy_engine (s : State) (r : Reg8) (v : AluResult 8) :
    (s.commitKeepCy r v).engine = s.engine := by
  cases r <;> rfl

@[simp] theorem State.commitKeepCy_flags (s : State) (r : Reg8) (v : AluResult 8) :
    (s.commitKeepCy r v).flags = { v.flags with cy := s.flags.cy } := rfl

/-- A selector write keeps the canonical form. -/
theorem reg8Write_inv {s : State} (r : Reg8) (v : Byte) (h : s.Inv) : (reg8Write r v s).Inv := by
  cases r with
  | m => exact State.memWrite1_inv _ _ h
  | b | c | d | e | h | l | a => exact h

/-! ## Reads after selector writes -/

@[simp] theorem reg8Read_reg8Write_self {r : Reg8} (h : r ≠ .m) (v : Byte) (s : State) :
    reg8Read r (reg8Write r v s) = v := by
  cases r <;> first | rfl | exact absurd rfl h

/-- A write through one selector leaves every other register alone. -/
theorem reg8Read_reg8Write_other {r q : Reg8} (hq : q ≠ .m) (h : q ≠ r) (v : Byte) (s : State) :
    reg8Read q (reg8Write r v s) = reg8Read q s := by
  cases q <;> cases r <;> first | rfl | exact absurd rfl h | exact absurd rfl hq

@[simp] theorem pairRead_pairWrite_self (pair : Pair) (v : Word) (s : State) :
    pairRead pair (pairWrite pair v s) = v := by
  cases pair <;> simp [pairRead, pairWrite, Regs.bc, Regs.de, Regs.hl, Regs.setBC, Regs.setDE, Regs.setHL]

end Sys2Proof.Machine
end

