-- ==== Sys2Proof/Laws/Exec.lean ====
section
/-!
SUPPORT. Everything an instruction can do, said once: it retires, or it takes an execution fault. No operation of an
instruction touches the engine state or a counter before that.
-/

namespace Sys2Proof.Machine

/-- The instruction retires at `s`: it ends with `State.retire`, and its effect before that leaves the engine and the
counters alone. -/
def Retires (i : Instr) (s : State) : Prop :=
  ∃ (done : State) (target : Word), exec i s = .next (done.retire i target) ∧
    done.engine = s.engine ∧ done.cycles = s.cycles ∧ done.iter = s.iter

theorem retires_of_complete {i : Instr} {s done : State} (h : exec i s = complete i done)
    (he : done.engine = s.engine := by simp) (hc : done.cycles = s.cycles := by simp)
    (hi : done.iter = s.iter := by simp) : Retires i s :=
  ⟨done, done.npc i, h, he, hc, hi⟩

theorem retires_of_completeAt {i : Instr} {s done : State} {target : Word} (h : exec i s = completeAt i target done)
    (he : done.engine = s.engine := by simp) (hc : done.cycles = s.cycles := by simp)
    (hi : done.iter = s.iter := by simp) : Retires i s :=
  ⟨done, target, h, he, hc, hi⟩

theorem retires_of_completeValid {i : Instr} {s done : State} (hw : i.wellFormed = true)
    (h : exec i s = completeValid i s done) (he : done.engine = s.engine := by simp)
    (hc : done.cycles = s.cycles := by simp) (hi : done.iter = s.iter := by simp) : Retires i s :=
  ⟨done, done.npc i, h.trans (completeValid_of_wellFormed hw s done), he, hc, hi⟩

theorem retires_of_ite {i : Instr} {s a b : State} {p : Prop} [Decidable p] {ta tb : Word}
    (h : exec i s = if p then completeAt i ta a else completeAt i tb b)
    (ha : a.engine = s.engine ∧ a.cycles = s.cycles ∧ a.iter = s.iter := by simp)
    (hb : b.engine = s.engine ∧ b.cycles = s.cycles ∧ b.iter = s.iter := by simp) : Retires i s := by
  by_cases hp : p
  · rw [if_pos hp] at h; exact ⟨a, ta, h, ha⟩
  · rw [if_neg hp] at h; exact ⟨b, tb, h, hb⟩

/-- A legal instruction with allowed selectors retires, in every state. -/
theorem exec_retires {i : Instr} (hl : i.legal = true) (hw : i.wellFormed = true) (s : State) : Retires i s := by
  cases i <;> first
    | exact retires_of_complete rfl
    | exact retires_of_completeAt rfl
    | exact retires_of_completeValid hw rfl
    | exact retires_of_ite rfl
    | cases hl

/-- An instruction that does not retire takes an execution fault, whose cause says why. -/
theorem exec_faults {i : Instr} (h : i.legal = false ∨ i.wellFormed = false) (s : State) :
    exec i s = .next (s.setEngine
      (.faulted (faultRecord i (if i.legal = true then .invalidSelector else .illegalOpcode) s.pc))) := by
  rcases h with h | h
  · cases i <;> first | rfl | cases h
  · cases i <;> first | exact completeValid_of_not_wellFormed h s _ | cases h

end Sys2Proof.Machine
end

