-- ==== Sys2Proof/Laws/Flags.lean ====
section
/-!
SUPPORT. What the flag computations give, field by field and bit by bit.
-/

namespace Sys2Proof.Machine

@[simp] theorem flagsOf_z (r : Byte) (cy ac : Bool) : (flagsOf r cy ac).z = decide (r = 0) := rfl
@[simp] theorem flagsOf_s (r : Byte) (cy ac : Bool) : (flagsOf r cy ac).s = r.getLsbD 7 := rfl
@[simp] theorem flagsOf_p (r : Byte) (cy ac : Bool) : (flagsOf r cy ac).p = parityEven r := rfl
@[simp] theorem flagsOf_cy (r : Byte) (cy ac : Bool) : (flagsOf r cy ac).cy = cy := rfl
@[simp] theorem flagsOf_ac (r : Byte) (cy ac : Bool) : (flagsOf r cy ac).ac = ac := rfl

theorem carryIn_eq_toNat (cin : Bool) : carryIn cin = cin.toNat := by cases cin <;> rfl

theorem carryIn_le_one (cin : Bool) : carryIn cin ≤ 1 := by cases cin <;> decide

/-- A flag as the bit `i` of a byte: that bit is the flag, every other bit is 0. -/
theorem flagBit_getLsbD (f : Bool) {i j : Nat} (hi : i < 8) : (flagBit f i).getLsbD j = (decide (j = i) && f) := by
  by_cases hj : j < 8
  · cases f
    · simp [flagBit]
    · interval_cases i <;> interval_cases j <;> rfl
  · rw [BitVec.getLsbD_of_ge _ _ (by omega)]
    simp [show ¬ j = i by omega]

/-- The flag byte, bit by bit. -/
theorem packFlagsWith_getLsbD (fixed : Byte) (f : Flags) (j : Nat) :
    (packFlagsWith fixed f).getLsbD j =
      ((decide (j = 7) && f.s) || (decide (j = 6) && f.z) || (decide (j = 4) && f.ac) || (decide (j = 2) && f.p) ||
        (decide (j = 0) && f.cy) || (fixed.getLsbD j && (0b00101010#8).getLsbD j)) := by
  simp [packFlagsWith, flagBit_getLsbD]

end Sys2Proof.Machine
end

