-- ==== Sys2Proof/Laws/PerInstr.lean ====
section
/-!
SUPPORT. The per-instruction family `Encoding`: one lemma per constructor of `Instr`. The opcode byte alone decides
how many bytes follow it (30_encoding R98), and no instruction is longer than three bytes (R90).
-/

namespace Sys2Proof.Laws.Encoding

/-- The opcode byte of a well-formed instruction announces exactly its operand bytes, of which there are at most two. -/
def Statement (i : Instr) : Prop :=
  i.wellFormed = true → extraBytes i.opcode = i.operandBytes.length ∧ i.operandBytes.length ≤ 2

theorem nop : Statement .nop := fun _ => ⟨by decide, by decide⟩

theorem lxi (pair : Pair) (d16 : Word) : Statement (.lxi pair d16) := by
  cases pair <;> intro _ <;> simp only [Instr.opcode, Instr.operandBytes, List.length] <;> decide

theorem stax (pair : Pair) : Statement (.stax pair) := by
  cases pair <;> (unfold Statement; decide)

theorem ldax (pair : Pair) : Statement (.ldax pair) := by
  cases pair <;> (unfold Statement; decide)

theorem shld (a16 : Word) : Statement (.shld a16) :=
  fun _ => ⟨(by decide : extraBytes 0x22#8 = 2), by simp [Instr.operandBytes]⟩

theorem lhld (a16 : Word) : Statement (.lhld a16) :=
  fun _ => ⟨(by decide : extraBytes 0x2A#8 = 2), by simp [Instr.operandBytes]⟩

theorem sta (a16 : Word) : Statement (.sta a16) :=
  fun _ => ⟨(by decide : extraBytes 0x32#8 = 2), by simp [Instr.operandBytes]⟩

theorem lda (a16 : Word) : Statement (.lda a16) :=
  fun _ => ⟨(by decide : extraBytes 0x3A#8 = 2), by simp [Instr.operandBytes]⟩

theorem inx (pair : Pair) : Statement (.inx pair) := by
  cases pair <;> (unfold Statement; decide)

theorem dcx (pair : Pair) : Statement (.dcx pair) := by
  cases pair <;> (unfold Statement; decide)

theorem dad (pair : Pair) : Statement (.dad pair) := by
  cases pair <;> (unfold Statement; decide)

theorem inrR (r : Reg8) : Statement (.inrR r) := by
  cases r <;> (unfold Statement; decide)

theorem inrM : Statement .inrM := fun _ => ⟨by decide, by decide⟩

theorem dcrR (r : Reg8) : Statement (.dcrR r) := by
  cases r <;> (unfold Statement; decide)

theorem dcrM : Statement .dcrM := fun _ => ⟨by decide, by decide⟩

theorem mviR (r : Reg8) (d8 : Byte) : Statement (.mviR r d8) := by
  cases r <;> intro _ <;> simp only [Instr.opcode, Instr.operandBytes, List.length] <;> decide

theorem mviM (d8 : Byte) : Statement (.mviM d8) :=
  fun _ => ⟨(by decide : extraBytes 0x36#8 = 1), by simp [Instr.operandBytes]⟩

theorem rlc : Statement .rlc := fun _ => ⟨by decide, by decide⟩

theorem rrc : Statement .rrc := fun _ => ⟨by decide, by decide⟩

theorem ral : Statement .ral := fun _ => ⟨by decide, by decide⟩

theorem rar : Statement .rar := fun _ => ⟨by decide, by decide⟩

theorem daa : Statement .daa := fun _ => ⟨by decide, by decide⟩

theorem cma : Statement .cma := fun _ => ⟨by decide, by decide⟩

theorem stc : Statement .stc := fun _ => ⟨by decide, by decide⟩

theorem cmc : Statement .cmc := fun _ => ⟨by decide, by decide⟩

theorem movRR (dst : Reg8) (src : Reg8) : Statement (.movRR dst src) := by
  cases dst <;> cases src <;> (unfold Statement; decide)

theorem movRM (dst : Reg8) : Statement (.movRM dst) := by
  cases dst <;> (unfold Statement; decide)

theorem movMR (src : Reg8) : Statement (.movMR src) := by
  cases src <;> (unfold Statement; decide)

theorem hlt : Statement .hlt := fun _ => ⟨by decide, by decide⟩

theorem addR (r : Reg8) : Statement (.addR r) := by
  cases r <;> (unfold Statement; decide)

theorem addM : Statement .addM := fun _ => ⟨by decide, by decide⟩

theorem adcR (r : Reg8) : Statement (.adcR r) := by
  cases r <;> (unfold Statement; decide)

theorem adcM : Statement .adcM := fun _ => ⟨by decide, by decide⟩

theorem subR (r : Reg8) : Statement (.subR r) := by
  cases r <;> (unfold Statement; decide)

theorem subM : Statement .subM := fun _ => ⟨by decide, by decide⟩

theorem sbbR (r : Reg8) : Statement (.sbbR r) := by
  cases r <;> (unfold Statement; decide)

theorem sbbM : Statement .sbbM := fun _ => ⟨by decide, by decide⟩

theorem anaR (r : Reg8) : Statement (.anaR r) := by
  cases r <;> (unfold Statement; decide)

theorem anaM : Statement .anaM := fun _ => ⟨by decide, by decide⟩

theorem xraR (r : Reg8) : Statement (.xraR r) := by
  cases r <;> (unfold Statement; decide)

theorem xraM : Statement .xraM := fun _ => ⟨by decide, by decide⟩

theorem oraR (r : Reg8) : Statement (.oraR r) := by
  cases r <;> (unfold Statement; decide)

theorem oraM : Statement .oraM := fun _ => ⟨by decide, by decide⟩

theorem cmpR (r : Reg8) : Statement (.cmpR r) := by
  cases r <;> (unfold Statement; decide)

theorem cmpM : Statement .cmpM := fun _ => ⟨by decide, by decide⟩

theorem adi (d8 : Byte) : Statement (.adi d8) :=
  fun _ => ⟨(by decide : extraBytes 0xC6#8 = 1), by simp [Instr.operandBytes]⟩

theorem aci (d8 : Byte) : Statement (.aci d8) :=
  fun _ => ⟨(by decide : extraBytes 0xCE#8 = 1), by simp [Instr.operandBytes]⟩

theorem sui (d8 : Byte) : Statement (.sui d8) :=
  fun _ => ⟨(by decide : extraBytes 0xD6#8 = 1), by simp [Instr.operandBytes]⟩

theorem sbi (d8 : Byte) : Statement (.sbi d8) :=
  fun _ => ⟨(by decide : extraBytes 0xDE#8 = 1), by simp [Instr.operandBytes]⟩

theorem ani (d8 : Byte) : Statement (.ani d8) :=
  fun _ => ⟨(by decide : extraBytes 0xE6#8 = 1), by simp [Instr.operandBytes]⟩

theorem xri (d8 : Byte) : Statement (.xri d8) :=
  fun _ => ⟨(by decide : extraBytes 0xEE#8 = 1), by simp [Instr.operandBytes]⟩

theorem ori (d8 : Byte) : Statement (.ori d8) :=
  fun _ => ⟨(by decide : extraBytes 0xF6#8 = 1), by simp [Instr.operandBytes]⟩

theorem cpi (d8 : Byte) : Statement (.cpi d8) :=
  fun _ => ⟨(by decide : extraBytes 0xFE#8 = 1), by simp [Instr.operandBytes]⟩

theorem rnz : Statement .rnz := fun _ => ⟨by decide, by decide⟩

theorem jnz (a16 : Word) : Statement (.jnz a16) :=
  fun _ => ⟨(by decide : extraBytes 0xC2#8 = 2), by simp [Instr.operandBytes]⟩

theorem cnz (a16 : Word) : Statement (.cnz a16) :=
  fun _ => ⟨(by decide : extraBytes 0xC4#8 = 2), by simp [Instr.operandBytes]⟩

theorem rz : Statement .rz := fun _ => ⟨by decide, by decide⟩

theorem jz (a16 : Word) : Statement (.jz a16) :=
  fun _ => ⟨(by decide : extraBytes 0xCA#8 = 2), by simp [Instr.operandBytes]⟩

theorem cz (a16 : Word) : Statement (.cz a16) :=
  fun _ => ⟨(by decide : extraBytes 0xCC#8 = 2), by simp [Instr.operandBytes]⟩

theorem rnc : Statement .rnc := fun _ => ⟨by decide, by decide⟩

theorem jnc (a16 : Word) : Statement (.jnc a16) :=
  fun _ => ⟨(by decide : extraBytes 0xD2#8 = 2), by simp [Instr.operandBytes]⟩

theorem cnc (a16 : Word) : Statement (.cnc a16) :=
  fun _ => ⟨(by decide : extraBytes 0xD4#8 = 2), by simp [Instr.operandBytes]⟩

theorem rc : Statement .rc := fun _ => ⟨by decide, by decide⟩

theorem jc (a16 : Word) : Statement (.jc a16) :=
  fun _ => ⟨(by decide : extraBytes 0xDA#8 = 2), by simp [Instr.operandBytes]⟩

theorem cc (a16 : Word) : Statement (.cc a16) :=
  fun _ => ⟨(by decide : extraBytes 0xDC#8 = 2), by simp [Instr.operandBytes]⟩

theorem rpo : Statement .rpo := fun _ => ⟨by decide, by decide⟩

theorem jpo (a16 : Word) : Statement (.jpo a16) :=
  fun _ => ⟨(by decide : extraBytes 0xE2#8 = 2), by simp [Instr.operandBytes]⟩

theorem cpo (a16 : Word) : Statement (.cpo a16) :=
  fun _ => ⟨(by decide : extraBytes 0xE4#8 = 2), by simp [Instr.operandBytes]⟩

theorem rpe : Statement .rpe := fun _ => ⟨by decide, by decide⟩

theorem jpe (a16 : Word) : Statement (.jpe a16) :=
  fun _ => ⟨(by decide : extraBytes 0xEA#8 = 2), by simp [Instr.operandBytes]⟩

theorem cpe (a16 : Word) : Statement (.cpe a16) :=
  fun _ => ⟨(by decide : extraBytes 0xEC#8 = 2), by simp [Instr.operandBytes]⟩

theorem rp : Statement .rp := fun _ => ⟨by decide, by decide⟩

theorem jp (a16 : Word) : Statement (.jp a16) :=
  fun _ => ⟨(by decide : extraBytes 0xF2#8 = 2), by simp [Instr.operandBytes]⟩

theorem cp (a16 : Word) : Statement (.cp a16) :=
  fun _ => ⟨(by decide : extraBytes 0xF4#8 = 2), by simp [Instr.operandBytes]⟩

theorem rm : Statement .rm := fun _ => ⟨by decide, by decide⟩

theorem jm (a16 : Word) : Statement (.jm a16) :=
  fun _ => ⟨(by decide : extraBytes 0xFA#8 = 2), by simp [Instr.operandBytes]⟩

theorem cm (a16 : Word) : Statement (.cm a16) :=
  fun _ => ⟨(by decide : extraBytes 0xFC#8 = 2), by simp [Instr.operandBytes]⟩

theorem pop (pair : Pair) : Statement (.pop pair) := by
  cases pair <;> (unfold Statement; decide)

theorem popPsw : Statement .popPsw := fun _ => ⟨by decide, by decide⟩

theorem push (pair : Pair) : Statement (.push pair) := by
  cases pair <;> (unfold Statement; decide)

theorem pushPsw : Statement .pushPsw := fun _ => ⟨by decide, by decide⟩

theorem ret : Statement .ret := fun _ => ⟨by decide, by decide⟩

theorem pchl : Statement .pchl := fun _ => ⟨by decide, by decide⟩

theorem sphl : Statement .sphl := fun _ => ⟨by decide, by decide⟩

theorem jmp (a16 : Word) : Statement (.jmp a16) :=
  fun _ => ⟨(by decide : extraBytes 0xC3#8 = 2), by simp [Instr.operandBytes]⟩

theorem call (a16 : Word) : Statement (.call a16) :=
  fun _ => ⟨(by decide : extraBytes 0xCD#8 = 2), by simp [Instr.operandBytes]⟩

theorem outPort (p8 : Byte) : Statement (.outPort p8) :=
  fun _ => ⟨(by decide : extraBytes 0xD3#8 = 1), by simp [Instr.operandBytes]⟩

theorem inPort (p8 : Byte) : Statement (.inPort p8) :=
  fun _ => ⟨(by decide : extraBytes 0xDB#8 = 1), by simp [Instr.operandBytes]⟩

theorem xthl : Statement .xthl := fun _ => ⟨by decide, by decide⟩

theorem xchg : Statement .xchg := fun _ => ⟨by decide, by decide⟩

theorem di : Statement .di := fun _ => ⟨by decide, by decide⟩

theorem ei : Statement .ei := fun _ => ⟨by decide, by decide⟩

theorem rst (n : BitVec 3) : Statement (.rst n) := by
  unfold Statement; revert n; decide

theorem illegal08 : Statement .illegal08 := fun _ => ⟨by decide, by decide⟩

theorem illegal10 : Statement .illegal10 := fun _ => ⟨by decide, by decide⟩

theorem illegal18 : Statement .illegal18 := fun _ => ⟨by decide, by decide⟩

theorem illegal20 : Statement .illegal20 := fun _ => ⟨by decide, by decide⟩

theorem illegal28 : Statement .illegal28 := fun _ => ⟨by decide, by decide⟩

theorem illegal30 : Statement .illegal30 := fun _ => ⟨by decide, by decide⟩

theorem illegal38 : Statement .illegal38 := fun _ => ⟨by decide, by decide⟩

theorem illegalCB : Statement .illegalCB := fun _ => ⟨by decide, by decide⟩

theorem illegalD9 : Statement .illegalD9 := fun _ => ⟨by decide, by decide⟩

theorem illegalDD : Statement .illegalDD := fun _ => ⟨by decide, by decide⟩

theorem illegalED : Statement .illegalED := fun _ => ⟨by decide, by decide⟩

theorem illegalFD : Statement .illegalFD := fun _ => ⟨by decide, by decide⟩

end Sys2Proof.Laws.Encoding
end

