-- ==== Sys2Proof/Laws/Reads.lean ====
section
/-!
SUPPORT. What a read gives after an update that does not touch what it reads: one lemma per reader per update.
-/

namespace Sys2Proof.Machine

/-- The fetch reads `pc` and memory alone. -/
theorem State.fetch_congr {s t : State} (pc : s.pc = t.pc) (mem : s.mem = t.mem) : s.fetch = t.fetch := by
  simp only [State.fetch, State.memRead1, pc, mem]

/-! ## Bytes and words of memory -/

@[simp] theorem State.setRegs_memRead1 (s : State) (r : Regs) (addr : Word) : (s.setRegs r).memRead1 addr = s.memRead1 addr := rfl
@[simp] theorem State.setSp_memRead1 (s : State) (v : Word) (addr : Word) : (s.setSp v).memRead1 addr = s.memRead1 addr := rfl
@[simp] theorem State.setPc_memRead1 (s : State) (v : Word) (addr : Word) : (s.setPc v).memRead1 addr = s.memRead1 addr := rfl
@[simp] theorem State.setFlags_memRead1 (s : State) (f : Flags) (addr : Word) : (s.setFlags f).memRead1 addr = s.memRead1 addr := rfl
@[simp] theorem State.setPins_memRead1 (s : State) (p : Pins) (addr : Word) : (s.setPins p).memRead1 addr = s.memRead1 addr := rfl
@[simp] theorem State.setPorts_memRead1 (s : State) (m : Memory) (addr : Word) : (s.setPorts m).memRead1 addr = s.memRead1 addr := rfl
@[simp] theorem State.setEngine_memRead1 (s : State) (e : Engine) (addr : Word) : (s.setEngine e).memRead1 addr = s.memRead1 addr := rfl
@[simp] theorem State.setA_memRead1 (s : State) (v : Byte) (addr : Word) : (s.setA v).memRead1 addr = s.memRead1 addr := rfl
@[simp] theorem State.setCy_memRead1 (s : State) (v : Bool) (addr : Word) : (s.setCy v).memRead1 addr = s.memRead1 addr := rfl
@[simp] theorem State.setInte_memRead1 (s : State) (v : Bool) (addr : Word) : (s.setInte v).memRead1 addr = s.memRead1 addr := rfl
@[simp] theorem State.portWrite_memRead1 (s : State) (p v : Byte) (addr : Word) : (s.portWrite p v).memRead1 addr = s.memRead1 addr := rfl
@[simp] theorem State.dropTop_memRead1 (s : State) (addr : Word) : s.dropTop.memRead1 addr = s.memRead1 addr := rfl
@[simp] theorem State.commitA_memRead1 (s : State) (r : AluResult 8) (addr : Word) : (s.commitA r).memRead1 addr = s.memRead1 addr := rfl
@[simp] theorem State.retire_memRead1 (s : State) (i : Instr) (target : Word) (addr : Word) : (s.retire i target).memRead1 addr = s.memRead1 addr := rfl

@[simp] theorem pairWrite_memRead1 (pair : Pair) (v : Word) (s : State) (addr : Word) :
    (pairWrite pair v s).memRead1 addr = s.memRead1 addr := by
  cases pair <;> rfl

theorem reg8Write_memRead1 {r : Reg8} (h : r ≠ .m) (v : Byte) (s : State) (addr : Word) :
    (reg8Write r v s).memRead1 addr = s.memRead1 addr := by
  unfold State.memRead1; rw [reg8Write_mem h]

/-- A write through the selector `M` is a write at `HL`. -/
@[simp] theorem reg8Write_m (v : Byte) (s : State) : reg8Write .m v s = s.memWrite1 s.mAddress v := rfl

@[simp] theorem State.commitKeepCy_memRead1 (s : State) (r : Reg8) (v : AluResult 8) (addr : Word) :
    (s.commitKeepCy r v).memRead1 addr = (reg8Write r v.value s).memRead1 addr := rfl

@[simp] theorem State.push16_memRead1 (s : State) (v addr : Word) :
    (s.push16 v).memRead1 addr = (s.memWrite2 s.pushAddress v).memRead1 addr := rfl

/-- The state of memory alone decides what memory reads as. -/
theorem State.memRead1_of_mem {s t : State} (h : t.mem = s.mem) (addr : Word) : t.memRead1 addr = s.memRead1 addr := by
  unfold State.memRead1; rw [h]

/-! ## Ports -/

@[simp] theorem State.setRegs_portRead (s : State) (r : Regs) (port : Byte) : (s.setRegs r).portRead port = s.portRead port := rfl
@[simp] theorem State.setSp_portRead (s : State) (v : Word) (port : Byte) : (s.setSp v).portRead port = s.portRead port := rfl
@[simp] theorem State.setPc_portRead (s : State) (v : Word) (port : Byte) : (s.setPc v).portRead port = s.portRead port := rfl
@[simp] theorem State.setFlags_portRead (s : State) (f : Flags) (port : Byte) : (s.setFlags f).portRead port = s.portRead port := rfl
@[simp] theorem State.setPins_portRead (s : State) (p : Pins) (port : Byte) : (s.setPins p).portRead port = s.portRead port := rfl
@[simp] theorem State.setEngine_portRead (s : State) (e : Engine) (port : Byte) : (s.setEngine e).portRead port = s.portRead port := rfl
@[simp] theorem State.setA_portRead (s : State) (v : Byte) (port : Byte) : (s.setA v).portRead port = s.portRead port := rfl
@[simp] theorem State.setCy_portRead (s : State) (v : Bool) (port : Byte) : (s.setCy v).portRead port = s.portRead port := rfl
@[simp] theorem State.setInte_portRead (s : State) (v : Bool) (port : Byte) : (s.setInte v).portRead port = s.portRead port := rfl
@[simp] theorem State.dropTop_portRead (s : State) (port : Byte) : s.dropTop.portRead port = s.portRead port := rfl
@[simp] theorem State.commitA_portRead (s : State) (r : AluResult 8) (port : Byte) : (s.commitA r).portRead port = s.portRead port := rfl
@[simp] theorem State.retire_portRead (s : State) (i : Instr) (target : Word) (port : Byte) : (s.retire i target).portRead port = s.portRead port := rfl

/-! ## Registers through the selectors -/

@[simp] theorem State.setSp_reg8Read (s : State) (v : Word) (q : Reg8) :
    reg8Read q (s.setSp v) = reg8Read q s := by cases q <;> rfl
@[simp] theorem State.setPc_reg8Read (s : State) (v : Word) (q : Reg8) :
    reg8Read q (s.setPc v) = reg8Read q s := by cases q <;> rfl
@[simp] theorem State.setFlags_reg8Read (s : State) (f : Flags) (q : Reg8) :
    reg8Read q (s.setFlags f) = reg8Read q s := by cases q <;> rfl
@[simp] theorem State.setPins_reg8Read (s : State) (p : Pins) (q : Reg8) :
    reg8Read q (s.setPins p) = reg8Read q s := by cases q <;> rfl
@[simp] theorem State.setPorts_reg8Read (s : State) (m : Memory) (q : Reg8) :
    reg8Read q (s.setPorts m) = reg8Read q s := by cases q <;> rfl
@[simp] theorem State.setEngine_reg8Read (s : State) (e : Engine) (q : Reg8) :
    reg8Read q (s.setEngine e) = reg8Read q s := by cases q <;> rfl
@[simp] theorem State.setCy_reg8Read (s : State) (v : Bool) (q : Reg8) :
    reg8Read q (s.setCy v) = reg8Read q s := by cases q <;> rfl
@[simp] theorem State.setInte_reg8Read (s : State) (v : Bool) (q : Reg8) :
    reg8Read q (s.setInte v) = reg8Read q s := by cases q <;> rfl
@[simp] theorem State.portWrite_reg8Read (s : State) (p v : Byte) (q : Reg8) :
    reg8Read q (s.portWrite p v) = reg8Read q s := by cases q <;> rfl
@[simp] theorem State.dropTop_reg8Read (s : State) (q : Reg8) :
    reg8Read q s.dropTop = reg8Read q s := by cases q <;> rfl
@[simp] theorem State.retire_reg8Read (s : State) (i : Instr) (target : Word) (q : Reg8) :
    reg8Read q (s.retire i target) = reg8Read q s := by cases q <;> rfl

/-- A write to `A` leaves every other register alone. -/
theorem State.setA_reg8Read {q : Reg8} (ha : q ≠ .a) (s : State) (v : Byte) :
    reg8Read q (s.setA v) = reg8Read q s := by
  cases q <;> first | rfl | exact absurd rfl ha

theorem State.commitA_reg8Read {q : Reg8} (ha : q ≠ .a) (s : State) (r : AluResult 8) :
    reg8Read q (s.commitA r) = reg8Read q s := by
  cases q <;> first | rfl | exact absurd rfl ha

/-- A write to memory leaves every register alone. -/
theorem State.memWrite1_reg8Read {q : Reg8} (hm : q ≠ .m) (s : State) (addr : Word) (v : Byte) :
    reg8Read q (s.memWrite1 addr v) = reg8Read q s := by
  cases q <;> first | rfl | exact absurd rfl hm

theorem State.memWrite2_reg8Read {q : Reg8} (hm : q ≠ .m) (s : State) (addr v : Word) :
    reg8Read q (s.memWrite2 addr v) = reg8Read q s := by
  cases q <;> first | rfl | exact absurd rfl hm

theorem State.push16_reg8Read {q : Reg8} (hm : q ≠ .m) (s : State) (v : Word) :
    reg8Read q (s.push16 v) = reg8Read q s := by
  cases q <;> first | rfl | exact absurd rfl hm

theorem State.commitKeepCy_reg8Read (q : Reg8) (s : State) (r : Reg8) (v : AluResult 8) :
    reg8Read q (s.commitKeepCy r v) = reg8Read q (reg8Write r v.value s) := by
  cases q <;> cases r <;> rfl

end Sys2Proof.Machine
end

