-- ==== Sys2Proof/Laws/Run.lean ====
section
/-!
SUPPORT. What a run does: its steps one by one, what a longer bound adds, and the one induction over a run.
-/

namespace Sys2Proof.Machine

theorem stateAfter_of_next {s t : State} (h : step s = .next t) : stateAfter s = t := by simp [stateAfter, h]

theorem stateAfter_of_fault {s : State} {r : Fault} (h : step s = .fault r) : stateAfter s = s := by
  simp [stateAfter, h]

@[simp] theorem run_zero (s : State) : run 0 s = .running s := rfl

theorem run_of_ok {s : State} {n : Nat} (h : report s = .ok n) (bound : Nat) :
    run (bound + 1) s = run bound (stateAfter s) := by simp [run, h]

theorem run_of_halt {s : State} (h : report s = .halt) (bound : Nat) :
    run (bound + 1) s = .endedNormally (stateAfter s) := by simp [run, h]

theorem run_of_fault {s : State} {r : FaultRecord} (h : report s = .fault r) (bound : Nat) :
    run (bound + 1) s = .endedAbnormally (stateAfter s) r := by simp [run, h]

/-- Everything the first step of a run can do. -/
theorem run_succ_cases (bound : Nat) (s : State) :
    (∃ n, report s = .ok n ∧ run (bound + 1) s = run bound (stateAfter s)) ∨
      (report s = .halt ∧ run (bound + 1) s = .endedNormally (stateAfter s)) ∨
      (∃ r, report s = .fault r ∧ run (bound + 1) s = .endedAbnormally (stateAfter s) r) := by
  cases h : report s with
  | ok n => exact .inl ⟨n, rfl, run_of_ok h bound⟩
  | halt => exact .inr (.inl ⟨rfl, run_of_halt h bound⟩)
  | fault r => exact .inr (.inr ⟨r, rfl, run_of_fault h bound⟩)

/-- A run that has not ended goes on from the state it has come to. -/
theorem run_add {m : Nat} {s u : State} (h : run m s = .running u) (n : Nat) : run (m + n) s = run n u := by
  induction m generalizing s with
  | zero => simp only [run_zero, RunResult.running.injEq] at h; rw [h, Nat.zero_add]
  | succ m ih =>
    rw [Nat.add_right_comm]
    rcases run_succ_cases m s with ⟨k, hk, hr⟩ | ⟨_, hr⟩ | ⟨_, _, hr⟩
    · rw [run_of_ok hk]; exact ih (hr ▸ h)
    · cases hr.symm.trans h
    · cases hr.symm.trans h

/-- What every step keeps holds in the state a run has come to. -/
theorem run_invariant {P : State → Prop} (keep : ∀ s t, P s → step s = .next t → P t) {s : State} (h : P s)
    (bound : Nat) : P (run bound s).state := by
  have after : ∀ {s}, P s → P (stateAfter s) := by
    intro s h
    cases hs : step s with
    | next t => rw [stateAfter_of_next hs]; exact keep s t h hs
    | fault r => rw [stateAfter_of_fault hs]; exact h
    | refused r => simpa [stateAfter, hs] using h
  induction bound generalizing s with
  | zero => exact h
  | succ bound ih =>
    rcases run_succ_cases bound s with ⟨_, _, hr⟩ | ⟨_, hr⟩ | ⟨_, _, hr⟩ <;> rw [hr]
    · exact ih (after h)
    · exact after h
    · exact after h

end Sys2Proof.Machine
end

