-- ==== Sys2Proof/Tests/Slice0.lean ====
section
/-!
SUPPORT. The model's own tests. Every expected value is one the spec gives: the encodings of 30_encoding and of each
instruction's rule, and the vectors of 95_test_vectors (V41.1 to V60.12, tables 2.1, 2.8 and 2.9). The witnesses at the
end meet the hypotheses of each statement of Sys2Proof/Certificates/Slice0/Obligations.lean.
-/

open Sys2Proof Sys2Proof.Machine Sys2Proof.Claims

namespace Sys2Proof.Tests

/-! ## Well-formed terms, and for each check a term it refuses -/

/-- 41_data_transfer R150: neither selector of `MOV r1,r2` is `110`. -/
theorem test_wellFormed_movRR :
    (Instr.movRR .b .a).wellFormed = true ∧ (Instr.movRR .m .a).wellFormed = false ∧
    (Instr.movRR .b .m).wellFormed = false := by decide

/-- 41_data_transfer R151 to R153; 42_arithmetic R182, R184: the selector is not `110`. -/
theorem test_wellFormed_register_forms :
    (Instr.movRM .h).wellFormed = true ∧ (Instr.movRM .m).wellFormed = false ∧ (Instr.movMR .m).wellFormed = false ∧
    (Instr.mviR .m 0xFF).wellFormed = false ∧ (Instr.inrR .m).wellFormed = false ∧
    (Instr.dcrR .m).wellFormed = false := by decide

/-- 42_arithmetic R170 to R179; 43_logical R190 to R199: the source register is not `110`. -/
theorem test_wellFormed_alu :
    (Instr.addR .a).wellFormed = true ∧
    [Instr.addR .m, .adcR .m, .subR .m, .sbbR .m, .anaR .m, .xraR .m, .oraR .m, .cmpR .m].map Instr.wellFormed =
      [false, false, false, false, false, false, false, false] := by decide

/-- 41_data_transfer R160, R161: `LDAX` and `STAX` take `B` and `D` only. -/
theorem test_wellFormed_pointer :
    (Instr.ldax .bc).wellFormed = true ∧ (Instr.stax .de).wellFormed = true ∧
    (Instr.ldax .hl).wellFormed = false ∧ (Instr.stax .sp).wellFormed = false := by decide

/-- 45_stack R240, R242: `PUSH rp` and `POP rp` take `B`, `D` and `H`; code 3 is `PSW`. -/
theorem test_wellFormed_stack :
    (Instr.push .hl).wellFormed = true ∧ (Instr.push .sp).wellFormed = false ∧ (Instr.pop .sp).wellFormed = false := by
  decide

/-- A selector that is not allowed is the fault InvalidSelector (60_exceptions R263). -/
theorem test_illFormed_faults :
    exec (.movRR .m .m) State.reset =
      .next { State.reset with engine := .faulted ⟨0x0000, 0x76, .invalidSelector, "0x0000: MOV M,M"⟩ } := rfl

/-! ## Decoding: words written out from the encodings of the spec; each constructor occurs -/

/-- Data transfer (41_data_transfer R150 to R162). -/
theorem test_decode_data_transfer :
    [0b01000111#8, 0b01111110#8, 0b01110000#8, 0b00111110#8, 0b00110110#8, 0b00110001#8, 0b00111010#8, 0b00110010#8].map
      (fun op => decode op 0x34 0x12) =
      [.movRR .b .a, .movRM .a, .movMR .b, .mviR .a 0x34, .mviM 0x34, .lxi .sp 0x1234, .lda 0x1234, .sta 0x1234] ∧
    [0b00101010#8, 0b00100010#8, 0b00001010#8, 0b00010010#8, 0b11101011#8].map (fun op => decode op 0x34 0x12) =
      [.lhld 0x1234, .shld 0x1234, .ldax .bc, .stax .de, .xchg] := by decide

/-- Arithmetic (42_arithmetic R170 to R181). -/
theorem test_decode_add_subtract :
    [0b10000001#8, 0b10000110#8, 0b11000110#8, 0b10001010#8, 0b10001110#8, 0b11001110#8].map (fun op => decode op 0x34 0x12) =
      [.addR .c, .addM, .adi 0x34, .adcR .d, .adcM, .aci 0x34] ∧
    [0b10010011#8, 0b10010110#8, 0b11010110#8, 0b10011100#8, 0b10011110#8, 0b11011110#8].map (fun op => decode op 0x34 0x12) =
      [.subR .e, .subM, .sui 0x34, .sbbR .h, .sbbM, .sbi 0x34] := by decide

/-- Arithmetic (42_arithmetic R182 to R189). -/
theorem test_decode_increment_adjust :
    [0b00111100#8, 0b00110100#8, 0b00101101#8, 0b00110101#8, 0b00010011#8, 0b00111011#8, 0b00101001#8, 0b00100111#8].map
      (fun op => decode op 0x34 0x12) =
      [.inrR .a, .inrM, .dcrR .l, .dcrM, .inx .de, .dcx .sp, .dad .hl, .daa] := by decide

/-- Logical (43_logical R190 to R208). -/
theorem test_decode_logical :
    [0b10100101#8, 0b10100110#8, 0b11100110#8, 0b10101000#8, 0b10101110#8, 0b11101110#8, 0b10110111#8, 0b10110110#8].map
      (fun op => decode op 0x34 0x12) =
      [.anaR .l, .anaM, .ani 0x34, .xraR .b, .xraM, .xri 0x34, .oraR .a, .oraM] ∧
    [0b11110110#8, 0b10111011#8, 0b10111110#8, 0b11111110#8, 0b00000111#8, 0b00001111#8, 0b00010111#8, 0b00011111#8].map
      (fun op => decode op 0x34 0x12) =
      [.ori 0x34, .cmpR .e, .cmpM, .cpi 0x34, .rlc, .rrc, .ral, .rar] ∧
    [0b00101111#8, 0b00111111#8, 0b00110111#8].map (fun op => decode op 0x34 0x12) = [.cma, .cmc, .stc] := by decide

/-- Jumps (44_branch R211 to R219, R239): `11 ccc 010`. -/
theorem test_decode_jumps :
    [0b11000011#8, 0b11000010#8, 0b11001010#8, 0b11010010#8, 0b11011010#8, 0b11100010#8, 0b11101010#8, 0b11110010#8].map
      (fun op => decode op 0x34 0x12) =
      [.jmp 0x1234, .jnz 0x1234, .jz 0x1234, .jnc 0x1234, .jc 0x1234, .jpo 0x1234, .jpe 0x1234, .jp 0x1234] ∧
    [0b11111010#8, 0b11101001#8].map (fun op => decode op 0x34 0x12) = [.jm 0x1234, .pchl] := by decide

/-- Calls (44_branch R220 to R228, R238): `11 ccc 100`, `11 nnn 111`. -/
theorem test_decode_calls :
    [0b11001101#8, 0b11000100#8, 0b11001100#8, 0b11010100#8, 0b11011100#8, 0b11100100#8, 0b11101100#8, 0b11110100#8].map
      (fun op => decode op 0x34 0x12) =
      [.call 0x1234, .cnz 0x1234, .cz 0x1234, .cnc 0x1234, .cc 0x1234, .cpo 0x1234, .cpe 0x1234, .cp 0x1234] ∧
    [0b11111100#8, 0b11101111#8].map (fun op => decode op 0x34 0x12) = [.cm 0x1234, .rst 5] := by decide

/-- Returns (44_branch R229 to R237): `11 ccc 000`. -/
theorem test_decode_returns :
    [0b11001001#8, 0b11000000#8, 0b11001000#8, 0b11010000#8, 0b11011000#8, 0b11100000#8, 0b11101000#8, 0b11110000#8].map
      (fun op => decode op 0x34 0x12) = [.ret, .rnz, .rz, .rnc, .rc, .rpo, .rpe, .rp] ∧
    decode 0b11111000#8 0x34 0x12 = .rm := by decide

/-- Stack, input and output, control (45_stack R240 to R251). -/
theorem test_decode_stack_control :
    [0b11010101#8, 0b11110101#8, 0b11100001#8, 0b11110001#8, 0b11100011#8, 0b11111001#8, 0b11011011#8, 0b11010011#8].map
      (fun op => decode op 0x34 0x12) =
      [.push .de, .pushPsw, .pop .hl, .popPsw, .xthl, .sphl, .inPort 0x34, .outPort 0x34] ∧
    [0b11111011#8, 0b11110011#8, 0b01110110#8, 0b00000000#8].map (fun op => decode op 0x34 0x12) =
      [.ei, .di, .hlt, .nop] := by decide

/-- The twelve illegal bytes (30_encoding R110). -/
theorem test_decode_illegal :
    illegalBytes.map (fun op => decode op 0x34 0x12) =
      [.illegal08, .illegal10, .illegal18, .illegal20, .illegal28, .illegal30, .illegal38] ++
        [.illegalCB, .illegalD9, .illegalDD, .illegalED, .illegalFD] := by decide

/-- The low byte comes first (30_encoding R104), and the rest of the list is left. -/
theorem test_decodeBytes : decodeBytes [0xC3, 0x10, 0x00, 0x76] = .ok (.jmp 0x0010, [0x76]) := rfl

/-- A list that ends inside an instruction is refused by name. -/
theorem test_decodeBytes_refuses :
    decodeBytes [] = .error .noOpcodeByte ∧ decodeBytes [0x3E] = .error (.missingExtraBytes 0x3E) ∧
    decodeBytes [0xC3, 0x10] = .error (.missingExtraBytes 0xC3) := ⟨rfl, rfl, rfl⟩

/-- The table's numbering: bit 0 is the least significant bit of the first byte; a short row has zero operands. -/
theorem test_decodeTableWord :
    decodeTableWord 24 0x1234C3 = some (.jmp 0x1234) ∧ decodeTableWord 8 0x3E = some (.mviR .a 0) := by decide

/-- `withFetchWord` places the instruction where the next step fetches it, also across 0xFFFF (30_encoding R90). -/
theorem test_withFetchWord :
    (State.reset.withFetchWord 24 0x1234C3).fetch = .jmp 0x1234 ∧
    ((State.reset.setPc 0xFFFF).withFetchWord 24 0x1234C3).fetch = .jmp 0x1234 := by decide

/-! ## The ALU primitives: rows of 95_test_vectors table 2.1 -/

theorem test_add8 :
    add8 0x0F 0x00 true = ⟨0x10, ⟨false, false, false, false, false⟩⟩ ∧
    add8 0xFF 0xFF true = ⟨0xFF, ⟨false, true, true, true, true⟩⟩ := by decide

theorem test_sub8 :
    sub8 0x05 0xFF true = ⟨0x05, ⟨false, false, true, true, true⟩⟩ ∧
    sub8 0x10 0x01 false = ⟨0x0F, ⟨false, false, true, false, true⟩⟩ := by decide

theorem test_logical8 :
    and8 0xFC 0x0F = ⟨0x0C, ⟨false, false, true, false, false⟩⟩ ∧
    xor8 0x80 0x01 = ⟨0x81, ⟨false, true, true, false, false⟩⟩ := by decide

theorem test_add16 : add16 0x00FF 0x0001 false = ⟨0x0100, ⟨false, false, false, false, false⟩⟩ := by decide

theorem test_sub16 : sub16 0x0100 0x0001 false = ⟨0x00FF, ⟨true, false, true, false, false⟩⟩ := by decide

/-- 10_state R31, R32: the instances of 95_test_vectors P1. -/
theorem test_flag_byte :
    packFlags (unpackFlags 0xFF) = 0xD7 ∧ packFlags (unpackFlags 0x28) = 0x02 ∧ packFlags (unpackFlags 0xC3) = 0xC3 := by
  decide

/-! ## One step of each instruction: vectors of 95_test_vectors -/

/-- Does the step from `s`, with these bytes at `addr` and `pc` there, give a next state with the property? -/
def after (addr : Word) (bytes : List Byte) (s : State) (p : State → Bool) : Bool :=
  match step ((s.storeBytes addr bytes).setPc addr) with
  | .next t => p t
  | .fault _ => false
  | .refused _ => false

/-! ### Data transfer -/

/-- V41.3. -/
theorem test_movRR :
    after 0x0000 [0x6C] (State.reset.setRegs ⟨0, 0, 0, 0, 0, 0x12, 0x34⟩) fun t =>
      t.regs.l = 0x12 ∧ t.pc = 0x0001 := by decide

/-- V41.5. -/
theorem test_movRM :
    after 0x0100 [0x66] ((State.reset.setRegs ⟨0, 0, 0, 0, 0, 0x20, 0x10⟩).memWrite1 0x2010 0x77) fun t =>
      t.regs.h = 0x77 ∧ t.pc = 0x0101 := by decide

/-- V41.7. -/
theorem test_movMR :
    after 0x0100 [0x74] (State.reset.setRegs ⟨0, 0, 0, 0, 0, 0x20, 0x10⟩) fun t =>
      t.pc = 0x0101 ∧ t.memRead1 0x2010 = 0x20 := by decide

/-- V41.10. -/
theorem test_mviR :
    after 0x0000 [0x2E, 0xFF] State.reset fun t =>
      t.regs.l = 0xFF ∧ t.pc = 0x0002 := by decide

/-- V41.11. -/
theorem test_mviM :
    after 0x0100 [0x36, 0xFF] (State.reset.setRegs ⟨0, 0, 0, 0, 0, 0x12, 0x34⟩) fun t =>
      t.pc = 0x0102 ∧ t.memRead1 0x1234 = 0xFF := by decide

/-- V41.12, V41.13. -/
theorem test_lxi :
    (after 0x0000 [0x31, 0x00, 0xFF] State.reset fun t =>
      t.sp = 0xFF00 ∧ t.pc = 0x0003) ∧
    (after 0x0000 [0x21, 0x34, 0x12] State.reset fun t =>
      t.regs.h = 0x12 ∧ t.regs.l = 0x34 ∧ t.pc = 0x0003) := by decide

/-- V41.16. -/
theorem test_lda :
    after 0x0000 [0x3A, 0x00, 0x30] (State.reset.memWrite1 0x3000 0x77) fun t =>
      t.regs.a = 0x77 ∧ t.pc = 0x0003 := by decide

/-- V41.17. -/
theorem test_sta :
    after 0x0000 [0x32, 0xFF, 0xFF] (State.reset.setRegs ⟨0x99, 0, 0, 0, 0, 0, 0⟩) fun t =>
      t.pc = 0x0003 ∧ t.memRead1 0xFFFF = 0x99 := by decide

/-- V41.19. -/
theorem test_lhld :
    after 0x0000 [0x2A, 0xFF, 0xFF] (State.reset.memWrite1 0xFFFF 0x34) fun t =>
      t.regs.h = 0x2A ∧ t.regs.l = 0x34 ∧ t.pc = 0x0003 := by decide

/-- V41.21. -/
theorem test_shld :
    after 0x0100 [0x22, 0xFF, 0xFF] (State.reset.setRegs ⟨0, 0, 0, 0, 0, 0xAB, 0xCD⟩) fun t =>
      t.pc = 0x0103 ∧ t.memRead1 0x0000 = 0xAB ∧ t.memRead1 0xFFFF = 0xCD := by decide

/-- V41.22, V41.23. -/
theorem test_ldax :
    (after 0x0000 [0x1A] ((State.reset.setRegs ⟨0, 0, 0, 0x30, 0, 0, 0⟩).memWrite1 0x3000 0x42) fun t =>
      t.regs.a = 0x42 ∧ t.pc = 0x0001) ∧
    (after 0x0000 [0x0A] ((State.reset.setRegs ⟨0, 0x30, 0x01, 0, 0, 0, 0⟩).memWrite1 0x3001 0x43) fun t =>
      t.regs.a = 0x43 ∧ t.pc = 0x0001) := by decide

/-- V41.24, V41.25. -/
theorem test_stax :
    (after 0x0000 [0x02] (State.reset.setRegs ⟨0x55, 0x30, 0x01, 0, 0, 0, 0⟩) fun t =>
      t.pc = 0x0001 ∧ t.memRead1 0x3001 = 0x55) ∧
    (after 0x0000 [0x12] (State.reset.setRegs ⟨0x56, 0, 0, 0x30, 0x02, 0, 0⟩) fun t =>
      t.pc = 0x0001 ∧ t.memRead1 0x3002 = 0x56) := by decide

/-- V41.26. -/
theorem test_xchg :
    after 0x0000 [0xEB] (State.reset.setRegs ⟨0, 0, 0, 0x11, 0x22, 0x33, 0x44⟩) fun t =>
      t.regs.d = 0x33 ∧ t.regs.e = 0x44 ∧ t.regs.h = 0x11 ∧ t.regs.l = 0x22 ∧ t.pc = 0x0001 := by decide

/-! ### Arithmetic -/

/-- V42.1, V42.2. -/
theorem test_addR :
    (after 0x0000 [0x80] (State.reset.setRegs ⟨0x6C, 0x2E, 0, 0, 0, 0, 0⟩) fun t =>
      t.regs.a = 0x9A ∧ t.flags = ⟨false, true, true, false, true⟩) ∧
    (after 0x0000 [0x87] (State.reset.setRegs ⟨0x80, 0, 0, 0, 0, 0, 0⟩) fun t =>
      t.regs.a = 0x00 ∧ t.flags = ⟨true, false, true, true, false⟩) := by decide

/-- V42.5. -/
theorem test_addM :
    after 0x0100 [0x86] ((State.reset.setRegs ⟨0x01, 0, 0, 0, 0, 0x20, 0⟩).memWrite1 0x2000 0x0F) fun t =>
      t.regs.a = 0x10 ∧ t.flags = ⟨false, false, false, false, true⟩ := by decide

/-- V42.6. -/
theorem test_adi :
    after 0x0000 [0xC6, 0x42] (State.reset.setRegs ⟨0x14, 0, 0, 0, 0, 0, 0⟩) fun t =>
      t.regs.a = 0x56 ∧ t.flags = ⟨false, false, true, false, false⟩ := by decide

/-- V42.7, V42.8. -/
theorem test_adcR :
    (after 0x0000 [0x89] ((State.reset.setRegs ⟨0x3D, 0, 0x42, 0, 0, 0, 0⟩).setFlags ⟨false, false, false, true, false⟩) fun t =>
      t.regs.a = 0x80 ∧ t.flags = ⟨false, true, false, false, false⟩) ∧
    (after 0x0000 [0x88] ((State.reset.setRegs ⟨0x0F, 0, 0, 0, 0, 0, 0⟩).setFlags ⟨false, false, false, true, false⟩) fun t =>
      t.regs.a = 0x10 ∧ t.flags = ⟨false, false, false, false, false⟩) := by decide

/-- V42.10. -/
theorem test_adcM :
    after 0x0100 [0x8E] ((State.reset.setRegs ⟨0x10, 0, 0, 0, 0, 0x20, 0⟩).memWrite1 0x2000 0x22) fun t =>
      t.regs.a = 0x32 ∧ t.flags = ⟨false, false, false, false, false⟩ := by decide

/-- V42.11. -/
theorem test_aci :
    after 0x0000 [0xCE, 0x00] ((State.reset.setRegs ⟨0xFF, 0, 0, 0, 0, 0, 0⟩).setFlags ⟨false, false, false, true, false⟩) fun t =>
      t.regs.a = 0x00 ∧ t.flags = ⟨true, false, true, true, false⟩ := by decide

/-- V42.13, V42.14. -/
theorem test_subR :
    (after 0x0000 [0x90] (State.reset.setRegs ⟨0, 0x01, 0, 0, 0, 0, 0⟩) fun t =>
      t.regs.a = 0xFF ∧ t.flags = ⟨false, true, true, true, true⟩) ∧
    (after 0x0000 [0x93] (State.reset.setRegs ⟨0x10, 0, 0, 0, 0x01, 0, 0⟩) fun t =>
      t.regs.a = 0x0F ∧ t.flags = ⟨false, false, true, false, true⟩) := by decide

/-- V42.15. -/
theorem test_subM :
    after 0x0100 [0x96] ((State.reset.setRegs ⟨0x80, 0, 0, 0, 0, 0x20, 0⟩).memWrite1 0x2000 0x01) fun t =>
      t.regs.a = 0x7F ∧ t.flags = ⟨false, false, false, false, true⟩ := by decide

/-- V42.16. -/
theorem test_sui :
    after 0x0000 [0xD6, 0x01] (State.reset.setRegs ⟨0, 0, 0, 0, 0, 0, 0⟩) fun t =>
      t.regs.a = 0xFF ∧ t.flags = ⟨false, true, true, true, true⟩ := by decide

/-- V42.17, V42.18. -/
theorem test_sbbR :
    (after 0x0000 [0x9D] ((State.reset.setRegs ⟨0x04, 0, 0, 0, 0, 0, 0x02⟩).setFlags ⟨false, false, false, true, false⟩) fun t =>
      t.regs.a = 0x01 ∧ t.flags = ⟨false, false, false, false, false⟩) ∧
    (after 0x0000 [0x98] ((State.reset.setRegs ⟨0x05, 0xFF, 0, 0, 0, 0, 0⟩).setFlags ⟨false, false, false, true, false⟩) fun t =>
      t.flags = ⟨false, false, true, true, true⟩) := by decide

/-- V42.19. -/
theorem test_sbbM :
    after 0x0100 [0x9E] (((State.reset.setRegs ⟨0, 0, 0, 0, 0, 0x20, 0⟩).setFlags ⟨false, false, false, true, false⟩).memWrite1 0x2000 0x00) fun t =>
      t.regs.a = 0xFF ∧ t.flags = ⟨false, true, true, true, false⟩ := by decide

/-- V42.20. -/
theorem test_sbi :
    after 0x0000 [0xDE, 0x01] (State.reset.setRegs ⟨0, 0, 0, 0, 0, 0, 0⟩) fun t =>
      t.regs.a = 0xFF ∧ t.flags = ⟨false, true, true, true, true⟩ := by decide

/-- V42.21, V42.22. -/
theorem test_inrR :
    (after 0x0000 [0x3C] (State.reset.setRegs ⟨0xFF, 0, 0, 0, 0, 0, 0⟩) fun t =>
      t.regs.a = 0x00 ∧ t.flags = ⟨true, false, true, false, true⟩) ∧
    (after 0x0000 [0x3C] ((State.reset.setRegs ⟨0xFF, 0, 0, 0, 0, 0, 0⟩).setFlags ⟨false, false, false, true, false⟩) fun t =>
      t.regs.a = 0x00 ∧ t.flags = ⟨true, false, true, true, true⟩) := by decide

/-- V42.25. -/
theorem test_inrM :
    after 0x0100 [0x34] ((State.reset.setRegs ⟨0, 0, 0, 0, 0, 0x20, 0⟩).memWrite1 0x2000 0x0F) fun t =>
      t.memRead1 0x2000 = 0x10 ∧ t.flags = ⟨false, false, false, false, true⟩ := by decide

/-- V42.27, V42.28. -/
theorem test_dcrR :
    (after 0x0000 [0x3D] (State.reset.setRegs ⟨0, 0, 0, 0, 0, 0, 0⟩) fun t =>
      t.regs.a = 0xFF ∧ t.flags = ⟨false, true, true, false, true⟩) ∧
    (after 0x0000 [0x25] ((State.reset.setRegs ⟨0, 0, 0, 0, 0, 0x10, 0⟩).setFlags ⟨false, false, false, true, false⟩) fun t =>
      t.regs.h = 0x0F ∧ t.flags = ⟨false, false, true, true, true⟩) := by decide

/-- V42.29. -/
theorem test_dcrM :
    after 0x0100 [0x35] ((State.reset.setRegs ⟨0, 0, 0, 0, 0, 0x3A, 0x7C⟩).memWrite1 0x3A7C 0x40) fun t =>
      t.memRead1 0x3A7C = 0x3F ∧ t.flags = ⟨false, false, true, false, true⟩ := by decide

/-- V42.30, V42.31. -/
theorem test_inx :
    (after 0x0000 [0x13] (State.reset.setRegs ⟨0, 0, 0, 0x38, 0xFF, 0, 0⟩) fun t =>
      t.regs.d = 0x39 ∧ t.regs.e = 0x00 ∧ t.flags = ⟨false, false, false, false, false⟩) ∧
    (after 0x0000 [0x33] ((State.reset.setFlags ⟨true, false, false, true, false⟩).setSp 0xFFFF) fun t =>
      t.sp = 0x0000 ∧ t.flags = ⟨true, false, false, true, false⟩) := by decide

/-- V42.33, V42.35. -/
theorem test_dcx :
    (after 0x0000 [0x2B] (State.reset.setRegs ⟨0, 0, 0, 0, 0, 0x98, 0⟩) fun t =>
      t.regs.h = 0x97 ∧ t.regs.l = 0xFF ∧ t.flags = ⟨false, false, false, false, false⟩) ∧
    (after 0x0000 [0x3B] (State.reset.setSp 0x0000) fun t =>
      t.sp = 0xFFFF ∧ t.flags = ⟨false, false, false, false, false⟩) := by decide

/-- V42.36, V42.37. -/
theorem test_dad :
    (after 0x0000 [0x09] (State.reset.setRegs ⟨0, 0x33, 0x9F, 0, 0, 0xA1, 0x7B⟩) fun t =>
      t.regs.h = 0xD5 ∧ t.regs.l = 0x1A ∧ t.flags = ⟨false, false, false, false, false⟩) ∧
    (after 0x0000 [0x29] ((State.reset.setRegs ⟨0, 0, 0, 0, 0, 0x80, 0⟩).setFlags ⟨true, false, false, false, false⟩) fun t =>
      t.regs.h = 0x00 ∧ t.flags = ⟨true, false, false, true, false⟩) := by decide

/-- V42.40, V42.44. -/
theorem test_daa :
    (after 0x0000 [0x27] (State.reset.setRegs ⟨0x9B, 0, 0, 0, 0, 0, 0⟩) fun t =>
      t.regs.a = 0x01 ∧ t.flags = ⟨false, false, false, true, true⟩) ∧
    (after 0x0000 [0x27] ((State.reset.setRegs ⟨0, 0, 0, 0, 0, 0, 0⟩).setFlags ⟨false, false, false, true, true⟩) fun t =>
      t.regs.a = 0x66 ∧ t.flags = ⟨false, false, true, true, false⟩) := by decide

/-! ### Logical -/

/-- V43.1. -/
theorem test_anaR :
    after 0x0000 [0xA1] ((State.reset.setRegs ⟨0xFC, 0, 0x0F, 0, 0, 0, 0⟩).setFlags ⟨false, false, false, true, true⟩) fun t =>
      t.regs.a = 0x0C ∧ t.flags = ⟨false, false, true, false, false⟩ := by decide

/-- V43.3. -/
theorem test_anaM :
    after 0x0100 [0xA6] ((State.reset.setRegs ⟨0xFF, 0, 0, 0, 0, 0x20, 0⟩).memWrite1 0x2000 0x80) fun t =>
      t.regs.a = 0x80 ∧ t.flags = ⟨false, true, false, false, false⟩ := by decide

/-- V43.4. -/
theorem test_ani :
    after 0x0000 [0xE6, 0x0F] (State.reset.setRegs ⟨0x3A, 0, 0, 0, 0, 0, 0⟩) fun t =>
      t.regs.a = 0x0A ∧ t.flags = ⟨false, false, true, false, false⟩ := by decide

/-- V43.6. -/
theorem test_xraR :
    after 0x0000 [0xA8] (State.reset.setRegs ⟨0xFF, 0x0F, 0, 0, 0, 0, 0⟩) fun t =>
      t.regs.a = 0xF0 ∧ t.flags = ⟨false, true, true, false, false⟩ := by decide

/-- V43.7. -/
theorem test_xraM :
    after 0x0100 [0xAE] ((State.reset.setRegs ⟨0x5C, 0, 0, 0, 0, 0x20, 0⟩).memWrite1 0x2000 0x78) fun t =>
      t.regs.a = 0x24 ∧ t.flags = ⟨false, false, true, false, false⟩ := by decide

/-- V43.8. -/
theorem test_xri :
    after 0x0000 [0xEE, 0x81] (State.reset.setRegs ⟨0x3B, 0, 0, 0, 0, 0, 0⟩) fun t =>
      t.regs.a = 0xBA ∧ t.flags = ⟨false, true, false, false, false⟩ := by decide

/-- V43.9. -/
theorem test_oraR :
    after 0x0000 [0xB1] ((State.reset.setRegs ⟨0x33, 0, 0x0F, 0, 0, 0, 0⟩).setFlags ⟨false, false, false, true, false⟩) fun t =>
      t.regs.a = 0x3F ∧ t.flags = ⟨false, false, true, false, false⟩ := by decide

/-- V43.11. -/
theorem test_oraM :
    after 0x0100 [0xB6] ((State.reset.setRegs ⟨0x01, 0, 0, 0, 0, 0x20, 0⟩).memWrite1 0x2000 0x80) fun t =>
      t.regs.a = 0x81 ∧ t.flags = ⟨false, true, true, false, false⟩ := by decide

/-- V43.12. -/
theorem test_ori :
    after 0x0000 [0xF6, 0x0F] (State.reset.setRegs ⟨0xB5, 0, 0, 0, 0, 0, 0⟩) fun t =>
      t.regs.a = 0xBF ∧ t.flags = ⟨false, true, false, false, false⟩ := by decide

/-- V43.14. -/
theorem test_cmpR :
    after 0x0000 [0xBB] (State.reset.setRegs ⟨0x02, 0, 0, 0, 0x05, 0, 0⟩) fun t =>
      t.flags = ⟨false, true, false, true, true⟩ := by decide

/-- V43.17. -/
theorem test_cmpM :
    after 0x0100 [0xBE] ((State.reset.setRegs ⟨0, 0, 0, 0, 0, 0x20, 0⟩).memWrite1 0x2000 0xFF) fun t =>
      t.flags = ⟨false, false, false, true, true⟩ := by decide

/-- V43.18. -/
theorem test_cpi :
    after 0x0000 [0xFE, 0x40] (State.reset.setRegs ⟨0x4A, 0, 0, 0, 0, 0, 0⟩) fun t =>
      t.flags = ⟨false, false, true, false, false⟩ := by decide

/-- V43.20. -/
theorem test_rlc :
    after 0x0000 [0x07] (State.reset.setRegs ⟨0xF2, 0, 0, 0, 0, 0, 0⟩) fun t =>
      t.regs.a = 0xE5 ∧ t.flags = ⟨false, false, false, true, false⟩ := by decide

/-- V43.23. -/
theorem test_rrc :
    after 0x0000 [0x0F] (State.reset.setRegs ⟨0x01, 0, 0, 0, 0, 0, 0⟩) fun t =>
      t.regs.a = 0x80 ∧ t.flags = ⟨false, false, false, true, false⟩ := by decide

/-- V43.25. -/
theorem test_ral :
    after 0x0000 [0x17] ((State.reset.setRegs ⟨0, 0, 0, 0, 0, 0, 0⟩).setFlags ⟨false, false, false, true, false⟩) fun t =>
      t.regs.a = 0x01 ∧ t.flags = ⟨false, false, false, false, false⟩ := by decide

/-- V43.26. -/
theorem test_rar :
    after 0x0000 [0x1F] ((State.reset.setRegs ⟨0x6A, 0, 0, 0, 0, 0, 0⟩).setFlags ⟨false, false, false, true, false⟩) fun t =>
      t.regs.a = 0xB5 ∧ t.flags = ⟨false, false, false, false, false⟩ := by decide

/-- V43.28. -/
theorem test_cma :
    after 0x0000 [0x2F] ((State.reset.setRegs ⟨0x51, 0, 0, 0, 0, 0, 0⟩).setFlags ⟨true, false, false, true, false⟩) fun t =>
      t.regs.a = 0xAE ∧ t.flags = ⟨true, false, false, true, false⟩ := by decide

/-- V43.29. -/
theorem test_cmc :
    after 0x0000 [0x3F] (State.reset.setFlags ⟨false, false, false, true, false⟩) fun t =>
      t.flags = ⟨false, false, false, false, false⟩ := by decide

/-- V43.31. -/
theorem test_stc :
    after 0x0000 [0x37] State.reset fun t =>
      t.flags = ⟨false, false, false, true, false⟩ := by decide

/-! ### Control transfer -/

/-- V44.1. -/
theorem test_jmp :
    after 0x0000 [0xC3, 0x10, 0x00] State.reset fun t =>
      t.pc = 0x0010 := by decide

/-- V44.3, V44.4. -/
theorem test_jnz :
    (after 0x0000 [0xC2, 0x34, 0x12] State.reset fun t =>
      t.pc = 0x1234) ∧
    (after 0x0000 [0xC2, 0x34, 0x12] (State.reset.setFlags ⟨true, false, false, false, false⟩) fun t =>
      t.pc = 0x0003) := by decide

/-- V44.5, V44.6. -/
theorem test_jz :
    (after 0x0000 [0xCA, 0x34, 0x12] (State.reset.setFlags ⟨true, false, false, false, false⟩) fun t =>
      t.pc = 0x1234) ∧
    (after 0x0000 [0xCA, 0x34, 0x12] State.reset fun t =>
      t.pc = 0x0003) := by decide

/-- V44.7, V44.8. -/
theorem test_jnc :
    (after 0x0000 [0xD2, 0x34, 0x12] State.reset fun t =>
      t.pc = 0x1234) ∧
    (after 0x0000 [0xD2, 0x34, 0x12] (State.reset.setFlags ⟨false, false, false, true, false⟩) fun t =>
      t.pc = 0x0003) := by decide

/-- V44.9, V44.10. -/
theorem test_jc :
    (after 0x0000 [0xDA, 0x34, 0x12] (State.reset.setFlags ⟨false, false, false, true, false⟩) fun t =>
      t.pc = 0x1234) ∧
    (after 0x0000 [0xDA, 0x34, 0x12] State.reset fun t =>
      t.pc = 0x0003) := by decide

/-- V44.11, V44.12. -/
theorem test_jpo :
    (after 0x0000 [0xE2, 0x34, 0x12] State.reset fun t =>
      t.pc = 0x1234) ∧
    (after 0x0000 [0xE2, 0x34, 0x12] (State.reset.setFlags ⟨false, false, true, false, false⟩) fun t =>
      t.pc = 0x0003) := by decide

/-- V44.13, V44.14. -/
theorem test_jpe :
    (after 0x0000 [0xEA, 0x34, 0x12] (State.reset.setFlags ⟨false, false, true, false, false⟩) fun t =>
      t.pc = 0x1234) ∧
    (after 0x0000 [0xEA, 0x34, 0x12] State.reset fun t =>
      t.pc = 0x0003) := by decide

/-- V44.15, V44.16. -/
theorem test_jp :
    (after 0x0000 [0xF2, 0x34, 0x12] State.reset fun t =>
      t.pc = 0x1234) ∧
    (after 0x0000 [0xF2, 0x34, 0x12] (State.reset.setFlags ⟨false, true, false, false, false⟩) fun t =>
      t.pc = 0x0003) := by decide

/-- V44.17, V44.18. -/
theorem test_jm :
    (after 0x0000 [0xFA, 0x34, 0x12] (State.reset.setFlags ⟨false, true, false, false, false⟩) fun t =>
      t.pc = 0x1234) ∧
    (after 0x0000 [0xFA, 0x34, 0x12] State.reset fun t =>
      t.pc = 0x0003) := by decide

/-- V44.20, V44.22. -/
theorem test_call :
    (after 0x1234 [0xCD, 0x00, 0x01] (State.reset.setSp 0x0000) fun t =>
      t.sp = 0xFFFE ∧ t.pc = 0x0100 ∧ t.memRead1 0xFFFE = 0x37 ∧ t.memRead1 0xFFFF = 0x12) ∧
    (after 0xFFFF [0xCD] (((State.reset.setSp 0x8000).memWrite1 0x0000 0x00).memWrite1 0x0001 0x40) fun t =>
      t.sp = 0x7FFE ∧ t.pc = 0x4000 ∧ t.memRead1 0x7FFE = 0x02) := by decide

/-- V44.23, V44.24. -/
theorem test_cnz :
    (after 0x0010 [0xC4, 0x00, 0x01] (State.reset.setSp 0xFF00) fun t =>
      t.sp = 0xFEFE ∧ t.pc = 0x0100 ∧ t.memRead1 0xFEFE = 0x13) ∧
    (after 0x0010 [0xC4, 0x00, 0x01] ((State.reset.setFlags ⟨true, false, false, false, false⟩).setSp 0xFF00) fun t =>
      t.pc = 0x0013) := by decide

/-- V44.25, V44.26. -/
theorem test_cz :
    (after 0x0010 [0xCC, 0x00, 0x01] ((State.reset.setFlags ⟨true, false, false, false, false⟩).setSp 0xFF00) fun t =>
      t.sp = 0xFEFE ∧ t.pc = 0x0100 ∧ t.memRead1 0xFEFE = 0x13) ∧
    (after 0x0010 [0xCC, 0x00, 0x01] (State.reset.setSp 0xFF00) fun t =>
      t.pc = 0x0013) := by decide

/-- V44.27. -/
theorem test_cnc :
    after 0x0010 [0xD4, 0x00, 0x01] (State.reset.setSp 0xFF00) fun t =>
      t.sp = 0xFEFE ∧ t.pc = 0x0100 ∧ t.memRead1 0xFEFE = 0x13 := by decide

/-- V44.28, V44.29. -/
theorem test_cc :
    (after 0x0010 [0xDC, 0x00, 0x01] (State.reset.setSp 0xFF00) fun t =>
      t.pc = 0x0013) ∧
    (after 0x0010 [0xDC, 0x00, 0x01] ((State.reset.setFlags ⟨false, false, false, true, false⟩).setSp 0xFF00) fun t =>
      t.sp = 0xFEFE ∧ t.pc = 0x0100 ∧ t.memRead1 0xFEFE = 0x13) := by decide

/-- V44.30. -/
theorem test_cpo :
    after 0x0010 [0xE4, 0x00, 0x01] (State.reset.setSp 0xFF00) fun t =>
      t.sp = 0xFEFE ∧ t.pc = 0x0100 ∧ t.memRead1 0xFEFE = 0x13 := by decide

/-- V44.31, V44.32. -/
theorem test_cpe :
    (after 0x0010 [0xEC, 0x00, 0x01] (State.reset.setSp 0xFF00) fun t =>
      t.pc = 0x0013) ∧
    (after 0x0010 [0xEC, 0x00, 0x01] ((State.reset.setFlags ⟨false, false, true, false, false⟩).setSp 0xFF00) fun t =>
      t.sp = 0xFEFE ∧ t.pc = 0x0100 ∧ t.memRead1 0xFEFE = 0x13) := by decide

/-- V44.33, V44.34. -/
theorem test_cp :
    (after 0x0010 [0xF4, 0x00, 0x01] (State.reset.setSp 0xFF00) fun t =>
      t.sp = 0xFEFE ∧ t.pc = 0x0100 ∧ t.memRead1 0xFEFE = 0x13) ∧
    (after 0x0010 [0xF4, 0x00, 0x01] ((State.reset.setFlags ⟨false, true, false, false, false⟩).setSp 0xFF00) fun t =>
      t.pc = 0x0013) := by decide

/-- V44.35, V44.36. -/
theorem test_cm :
    (after 0x0010 [0xFC, 0x00, 0x01] (State.reset.setSp 0xFF00) fun t =>
      t.pc = 0x0013) ∧
    (after 0x0010 [0xFC, 0x00, 0x01] ((State.reset.setFlags ⟨false, true, false, false, false⟩).setSp 0xFF00) fun t =>
      t.sp = 0xFEFE ∧ t.pc = 0x0100 ∧ t.memRead1 0xFEFE = 0x13) := by decide

/-- V44.37, V44.38. -/
theorem test_ret :
    (after 0x0100 [0xC9] (((State.reset.setSp 0xFEFE).memWrite1 0xFEFE 0x03).memWrite1 0xFEFF 0x00) fun t =>
      t.sp = 0xFF00 ∧ t.pc = 0x0003) ∧
    (after 0x0100 [0xC9] (((State.reset.setSp 0xFFFF).memWrite1 0xFFFF 0x34).memWrite1 0x0000 0x12) fun t =>
      t.sp = 0x0001 ∧ t.pc = 0x1234) := by decide

/-- V44.39, V44.40. -/
theorem test_rnz :
    (after 0x0100 [0xC0] (((State.reset.setSp 0xFEFE).memWrite1 0xFEFE 0x03).memWrite1 0xFEFF 0x00) fun t =>
      t.sp = 0xFF00 ∧ t.pc = 0x0003) ∧
    (after 0x0100 [0xC0] ((((State.reset.setFlags ⟨true, false, false, false, false⟩).setSp 0xFEFE).memWrite1 0xFEFE 0x03).memWrite1 0xFEFF 0x00) fun t =>
      t.pc = 0x0101) := by decide

/-- V44.41, V44.42. -/
theorem test_rz :
    (after 0x0100 [0xC8] ((((State.reset.setFlags ⟨true, false, false, false, false⟩).setSp 0xFEFE).memWrite1 0xFEFE 0x03).memWrite1 0xFEFF 0x00) fun t =>
      t.sp = 0xFF00 ∧ t.pc = 0x0003) ∧
    (after 0x0100 [0xC8] (((State.reset.setSp 0xFEFE).memWrite1 0xFEFE 0x03).memWrite1 0xFEFF 0x00) fun t =>
      t.pc = 0x0101) := by decide

/-- V44.43, V44.44. -/
theorem test_rnc :
    (after 0x0100 [0xD0] ((((State.reset.setFlags ⟨false, false, false, true, false⟩).setSp 0xFEFE).memWrite1 0xFEFE 0x03).memWrite1 0xFEFF 0x00) fun t =>
      t.pc = 0x0101) ∧
    (after 0x0100 [0xD0] (((State.reset.setSp 0xFEFE).memWrite1 0xFEFE 0x03).memWrite1 0xFEFF 0x00) fun t =>
      t.sp = 0xFF00 ∧ t.pc = 0x0003) := by decide

/-- V44.45. -/
theorem test_rc :
    after 0x0100 [0xD8] ((((State.reset.setFlags ⟨false, false, false, true, false⟩).setSp 0xFEFE).memWrite1 0xFEFE 0x03).memWrite1 0xFEFF 0x00) fun t =>
      t.sp = 0xFF00 ∧ t.pc = 0x0003 := by decide

/-- V44.46, V44.47. -/
theorem test_rpo :
    (after 0x0100 [0xE0] ((((State.reset.setFlags ⟨false, false, true, false, false⟩).setSp 0xFEFE).memWrite1 0xFEFE 0x03).memWrite1 0xFEFF 0x00) fun t =>
      t.pc = 0x0101) ∧
    (after 0x0100 [0xE0] (((State.reset.setSp 0xFEFE).memWrite1 0xFEFE 0x03).memWrite1 0xFEFF 0x00) fun t =>
      t.sp = 0xFF00 ∧ t.pc = 0x0003) := by decide

/-- V44.48. -/
theorem test_rpe :
    after 0x0100 [0xE8] ((((State.reset.setFlags ⟨false, false, true, false, false⟩).setSp 0xFEFE).memWrite1 0xFEFE 0x03).memWrite1 0xFEFF 0x00) fun t =>
      t.sp = 0xFF00 ∧ t.pc = 0x0003 := by decide

/-- V44.49, V44.50. -/
theorem test_rp :
    (after 0x0100 [0xF0] (((State.reset.setSp 0xFEFE).memWrite1 0xFEFE 0x03).memWrite1 0xFEFF 0x00) fun t =>
      t.sp = 0xFF00 ∧ t.pc = 0x0003) ∧
    (after 0x0100 [0xF0] ((((State.reset.setFlags ⟨false, true, false, false, false⟩).setSp 0xFEFE).memWrite1 0xFEFE 0x03).memWrite1 0xFEFF 0x00) fun t =>
      t.pc = 0x0101) := by decide

/-- V44.51, V44.52. -/
theorem test_rm :
    (after 0x0100 [0xF8] (((State.reset.setSp 0xFEFE).memWrite1 0xFEFE 0x03).memWrite1 0xFEFF 0x00) fun t =>
      t.pc = 0x0101) ∧
    (after 0x0100 [0xF8] ((((State.reset.setFlags ⟨false, true, false, false, false⟩).setSp 0xFEFE).memWrite1 0xFEFE 0x03).memWrite1 0xFEFF 0x00) fun t =>
      t.sp = 0xFF00 ∧ t.pc = 0x0003) := by decide

/-- V44.53, V44.54. -/
theorem test_rst :
    (after 0x1234 [0xFF] (State.reset.setSp 0xFF00) fun t =>
      t.sp = 0xFEFE ∧ t.pc = 0x0038 ∧ t.memRead1 0xFEFE = 0x35 ∧ t.memRead1 0xFEFF = 0x12) ∧
    (after 0xFFFF [0xC7] (State.reset.setSp 0x2000) fun t =>
      t.sp = 0x1FFE ∧ t.pc = 0x0000) := by decide

/-- V44.57. -/
theorem test_pchl :
    after 0x0000 [0xE9] (State.reset.setRegs ⟨0, 0, 0, 0, 0, 0x41, 0x3E⟩) fun t =>
      t.pc = 0x413E := by decide

/-! ### Stack, input and output, machine control -/

/-- V45.2, V45.3. -/
theorem test_push :
    (after 0x0100 [0xE5] ((State.reset.setRegs ⟨0, 0, 0, 0, 0, 0xAB, 0xCD⟩).setSp 0x0001) fun t =>
      t.sp = 0xFFFF ∧ t.pc = 0x0101 ∧ t.memRead1 0x0000 = 0xAB ∧ t.memRead1 0xFFFF = 0xCD) ∧
    (after 0x0000 [0xD5] ((State.reset.setRegs ⟨0, 0, 0, 0x8F, 0x9D, 0, 0⟩).setSp 0x3A2C) fun t =>
      t.sp = 0x3A2A ∧ t.pc = 0x0001 ∧ t.memRead1 0x3A2A = 0x9D ∧ t.memRead1 0x3A2B = 0x8F) := by decide

/-- V45.4, V45.6. -/
theorem test_pushPsw :
    (after 0x0000 [0xF5] (((State.reset.setRegs ⟨0x1F, 0, 0, 0, 0, 0, 0⟩).setFlags ⟨true, false, true, true, false⟩).setSp 0x502A) fun t =>
      t.sp = 0x5028 ∧ t.pc = 0x0001 ∧ t.memRead1 0x5028 = 0x47 ∧ t.memRead1 0x5029 = 0x1F) ∧
    (after 0x0000 [0xF5] (((State.reset.setRegs ⟨0xAA, 0, 0, 0, 0, 0, 0⟩).setFlags ⟨true, true, true, true, true⟩).setSp 0xFF00) fun t =>
      t.sp = 0xFEFE ∧ t.pc = 0x0001 ∧ t.memRead1 0xFEFE = 0xD7 ∧ t.memRead1 0xFEFF = 0xAA) := by decide

/-- V45.8, V45.9. -/
theorem test_pop :
    (after 0x0100 [0xC1] (((State.reset.setSp 0xFFFF).memWrite1 0xFFFF 0x11).memWrite1 0x0000 0x22) fun t =>
      t.regs.b = 0x22 ∧ t.regs.c = 0x11 ∧ t.sp = 0x0001 ∧ t.pc = 0x0101) ∧
    (after 0x0000 [0xD1] (((State.reset.setSp 0x2000).memWrite1 0x2000 0xCD).memWrite1 0x2001 0xAB) fun t =>
      t.regs.d = 0xAB ∧ t.regs.e = 0xCD ∧ t.sp = 0x2002 ∧ t.pc = 0x0001) := by decide

/-- V45.10, V45.12. -/
theorem test_popPsw :
    (after 0x0000 [0xF1] (((State.reset.setSp 0x2C00).memWrite1 0x2C00 0xC3).memWrite1 0x2C01 0xFF) fun t =>
      t.regs.a = 0xFF ∧ t.sp = 0x2C02 ∧ t.flags = ⟨true, true, false, true, false⟩) ∧
    (after 0x0000 [0xF1] ((((State.reset.setFlags ⟨true, false, false, true, false⟩).setSp 0x2C00).memWrite1 0x2C00 0x28).memWrite1 0x2C01 0x12) fun t =>
      t.regs.a = 0x12 ∧ t.sp = 0x2C02 ∧ t.flags = ⟨false, false, false, false, false⟩) := by decide

/-- V45.13, V45.14. -/
theorem test_xthl :
    (after 0x0000 [0xE3] ((((State.reset.setRegs ⟨0, 0, 0, 0, 0, 0x0B, 0x3C⟩).setSp 0x10AD).memWrite1 0x10AD 0xF0).memWrite1 0x10AE 0x0D) fun t =>
      t.regs.h = 0x0D ∧ t.regs.l = 0xF0 ∧ t.pc = 0x0001 ∧ t.memRead1 0x10AD = 0x3C ∧ t.memRead1 0x10AE = 0x0B) ∧
    (after 0x0100 [0xE3] ((((State.reset.setRegs ⟨0, 0, 0, 0, 0, 0x12, 0x34⟩).setSp 0xFFFF).memWrite1 0xFFFF 0xAA).memWrite1 0x0000 0xBB) fun t =>
      t.regs.h = 0xBB ∧ t.regs.l = 0xAA ∧ t.pc = 0x0101 ∧ t.memRead1 0x0000 = 0x12 ∧ t.memRead1 0xFFFF = 0x34) := by decide

/-- V45.15. -/
theorem test_sphl :
    after 0x0000 [0xF9] (State.reset.setRegs ⟨0, 0, 0, 0, 0, 0x50, 0x6C⟩) fun t =>
      t.sp = 0x506C ∧ t.pc = 0x0001 := by decide

/-- V45.16, V45.17. -/
theorem test_inPort :
    (after 0x0000 [0xDB, 0x10] ((State.reset.setRegs ⟨0x11, 0, 0, 0, 0, 0, 0⟩).portWrite 0x10 0x5A) fun t =>
      t.regs.a = 0x5A ∧ t.pc = 0x0002) ∧
    (after 0x0000 [0xDB, 0xFF] (State.reset.setRegs ⟨0x11, 0, 0, 0, 0, 0, 0⟩) fun t =>
      t.regs.a = 0x00 ∧ t.pc = 0x0002) := by decide

/-- V45.18. -/
theorem test_outPort :
    after 0x0000 [0xD3, 0x10] (State.reset.setRegs ⟨0x5A, 0, 0, 0, 0, 0, 0⟩) fun t =>
      t.pc = 0x0002 ∧ t.portRead 0x10 = 0x5A := by decide

/-- V45.19. -/
theorem test_ei :
    after 0x0000 [0xFB] State.reset fun t =>
      t.pc = 0x0001 ∧ t.pins.inte = true := by decide

/-- V45.21. -/
theorem test_di :
    after 0x0000 [0xF3] (State.reset.setInte true) fun t =>
      t.pc = 0x0001 ∧ t.pins.inte = false := by decide

/-- V45.23. -/
theorem test_hlt :
    after 0x0010 [0x76] State.reset fun t =>
      t.pc = 0x0010 := by decide

/-- V45.25. -/
theorem test_nop :
    after 0xFFFF [0x00] State.reset fun t =>
      t.pc = 0x0000 := by decide

/-! ### Faults, reports, counters, the disassembler, the host -/

/-- V60.1, V60.8: the faulting step changes nothing but the engine. -/
theorem test_illegal_step :
    (after 0x0200 [0x08, 0x34, 0x12] (State.reset.setA 0x55) fun t =>
      t.engine = .faulted ⟨0x0200, 0x08, .illegalOpcode, "0x0200: NOT IMPLEMENTED"⟩ ∧ t.pc = 0x0200 ∧ t.cycles = 0 ∧ t.iter = 0) ∧
    (after 0x0200 [0xCB, 0x34, 0x12] (State.reset.setA 0x55) fun t =>
      t.engine = .faulted ⟨0x0200, 0xCB, .illegalOpcode, "0x0200: NOT IMPLEMENTED"⟩ ∧ t.regs.a = 0x55) := by decide

/-- A state in which a step has faulted. -/
def faultedState : State := stateAfter ((State.reset.storeBytes 0x0200 [0x08]).setPc 0x0200)

/-- 60_exceptions R266: a later step reports the same fault, its text included, also when the byte was overwritten. -/
theorem test_faulted_step :
    step faultedState = .fault (.executionFault ⟨0x0200, 0x08, .illegalOpcode, "0x0200: NOT IMPLEMENTED"⟩) ∧
    report (hostWriteMemory 0x0200 0x00 faultedState) =
      .fault ⟨0x0200, 0x08, .illegalOpcode, "0x0200: NOT IMPLEMENTED"⟩ := ⟨rfl, by decide⟩

/-- 95_test_vectors S5: `HLT` reports Halt; V45.22: it costs 7 and counts as a step. -/
theorem test_halt_report :
    report (State.reset.storeBytes 0 [0x76]) = .halt ∧
    (after 0 [0x76] State.reset fun t => t.cycles = 7 ∧ t.iter = 1 ∧ t.pc = 0) := by decide

/-- 30_encoding R95: `next_offset` is the length; 60_exceptions R265: what a fault reports. -/
theorem test_ok_and_fault_report :
    report (State.reset.storeBytes 0 [0xC3, 0x10, 0x00]) = .ok 3 ∧
    report (State.reset.storeBytes 0 [0xFD]) = .fault ⟨0, 0xFD, .illegalOpcode, "0x0000: NOT IMPLEMENTED"⟩ := by decide

/-- 60_exceptions R269: the codes of the causes. -/
theorem test_cause_codes : causeCode .illegalOpcode = 1 ∧ causeCode .invalidSelector = 2 := by decide

/-- 70_reset R305, 95_test_vectors S5: a run ends normally at the first `HLT`, `pc` on it. -/
theorem test_run_ends_normally :
    (runImage [0x3E, 0x05, 0x76, 0x3C] 0 9).toOption.map (fun r => r.final.map (fun t => (t.pc, t.regs.a, t.iter))) =
      some (some (0x0002, 0x05, 2)) := by decide

/-- 70_reset R305: a run ends abnormally at the first illegal byte, and the Faulted state is not final; a jump to
itself does not end. -/
theorem test_run_faults_or_goes_on :
    (runImage [0x00, 0x08] 0 9).toOption.map (fun r => (r.final, r.state.faultPending, r.state.pc)) =
      some (none, true, 0x0001) ∧
    (runImage [0xC3, 0x00, 0x00] 0 3).toOption.map (fun r => (r.final, r.state.faultPending, r.state.iter)) =
      some (none, false, 3) := by decide

/-- Rows of 95_test_vectors table 2.8. -/
theorem test_disassemble :
    disassemble (State.reset.storeBytes 0x10 [0x31, 0x00, 0xFF]) 0x10 = ⟨"LXI SP,0xFF00", 2, 10⟩ ∧
    disassemble (State.reset.storeBytes 0x10 [0xCB, 0x34, 0x12]) 0x10 = ⟨"NOT IMPLEMENTED", 0, 0⟩ := by decide

/-- 30_encoding R114: one line for each instruction of the range. -/
theorem test_disassembleRange :
    disassembleRange (State.reset.storeBytes 0 [0x3E, 0x05, 0x47]) 0 3 = "MVI A,0x05\nMOV B,A\n" := by decide

/-- 00_scope R9, 70_reset R291: the default image is empty, its offset 0. -/
theorem test_construct_default : constructDefault = .ok State.reset := by rfl

/-- 95_test_vectors table 2.9: an image of 2 bytes at 0xFFFF is refused, one of 1 byte is accepted. -/
theorem test_construct :
    (construct [0xAA, 0xBB] 0xFFFF = .error .imageLoadOverflow) ∧
    ((construct [0xAA] 0xFFFF).toOption.map (fun s => (s.memRead1 0xFFFF, s.pc)) = some (0xAA, 0x0000)) :=
  ⟨rfl, by decide⟩

/-- 10_state R41, R43: the pin field, and the two pin errors. -/
theorem test_pins :
    (Pins.set Pins.low (.data 7) true).toField = 0x00800000#64 ∧ (Pins.set Pins.low .ready true).toField = 0x800000000#64 :=
  by decide

theorem test_pin_errors :
    setPin .hold true State.reset = .error .unwritablePin ∧ getPin .inte State.reset = .error .unreadablePin ∧
    getPin .int (driveInputPin .int true State.reset) = .ok true := ⟨rfl, rfl, rfl⟩

/-- 10_state R23: the accessors of the host. -/
theorem test_host_accessors :
    hostRead8 .m (hostWrite8 .m 0x7E (hostWrite16 .hl 0x2010 State.reset)) = 0x7E ∧
    hostRead16 .bc (hostWrite8 .c 0x01 (hostWrite16 .bc 0xBEEF State.reset)) = 0xBE01 ∧
    hostReadFlag .ac (hostWriteFlag .ac true State.reset) = true := by decide

theorem reset_inv : State.reset.Inv := by decide

/-! ## Witnesses: concrete states and operands that meet the hypotheses of each statement -/

/-- A state with an illegal byte at `pc`. -/
def illegalState : State := State.reset.storeBytes 0 [0x08]

/-- A state whose memory and ports list a byte at either end of their range. -/
def edgeState : State :=
  ((((State.reset.memWrite1 0x0000 0x11).memWrite1 0xFFFF 0x22).portWrite 0x00 0x33).portWrite 0xFF 0x44).setSp 0x0001

/-- `s.Inv`, the hypothesis of ByteAccess, WordAccess, PortAccess, LoadImage, StepKeepsCanonicalForm, MemoryFrame. -/
theorem witness_inv : edgeState.Inv := by decide

/-- DecodeOfEncode, InstructionLengths, CycleCosts: well-formed instructions of each length. -/
theorem witness_wellFormed :
    (Instr.lxi .sp 0xFFFF).wellFormed = true ∧ (Instr.lxi .sp 0xFFFF).length = 3 ∧
    (Instr.mviR .a 0xFF).wellFormed = true ∧ (Instr.mviR .a 0xFF).length = 2 ∧
    (Instr.rst 7).wellFormed = true ∧ (Instr.rst 7).length = 1 ∧ Instr.illegalFD.wellFormed = true := by decide

/-- EveryInstructionCompletes: the two clauses, and the two cases of the first. -/
theorem witness_EveryInstructionCompletes :
    (Instr.hlt.wellFormed = true ∧ Instr.hlt.legal = true) ∧
    (Instr.illegal08.wellFormed = true ∧ Instr.illegal08.legal = false) ∧ (Instr.ldax .sp).wellFormed = false := by decide

/-- StepRunsDecoded: Ready, and three bytes at `pc` (across 0xFFFF) that decode. -/
theorem witness_StepRunsDecoded :
    let s := (State.reset.storeBytes 0xFFFF [0x11, 0x01, 0x00]).setPc 0xFFFF
    s.Ready ∧ (Instr.lxi .de 0x0001).wellFormed = true ∧
      decodeBytes [s.memRead1 s.pc, s.memRead1 (s.pc + 1), s.memRead1 (s.pc + 2)] = .ok (.lxi .de 0x0001, []) :=
  ⟨rfl, rfl, rfl⟩

theorem witness_FaultedStepReportsAgain :
    faultedState.engine = .faulted ⟨0x0200, 0x08, .illegalOpcode, "0x0200: NOT IMPLEMENTED"⟩ := by decide

/-- IllegalOpcodeStep: a Ready state for each clause. -/
theorem witness_IllegalOpcodeStep :
    (illegalState.Ready ∧ illegalState.memRead1 illegalState.pc ∈ illegalBytes) ∧
    (State.reset.Ready ∧ State.reset.memRead1 State.reset.pc ∉ illegalBytes) := by decide

/-- FaultAtomicity, and the second clause of CountersAccumulate. -/
theorem witness_FaultAtomicity :
    ∃ t, step illegalState = .next t ∧ t.faultPending = true := ⟨_, rfl, by decide⟩

/-- The first clause of CountersAccumulate; StepKeepsCanonicalForm with `witness_inv`. -/
theorem witness_CountersAccumulate : ∃ t, step edgeState = .next t ∧ t.faultPending = false := ⟨_, rfl, by decide⟩

theorem witness_StepKeepsCanonicalForm : ∃ t, edgeState.Inv ∧ step edgeState = .next t := ⟨_, witness_inv, rfl⟩

/-- PortsOnlyByInOut: an instruction that is neither. -/
theorem witness_PortsOnlyByInOut :
    (∀ p, Instr.xthl ≠ .inPort p) ∧ (∀ p, Instr.xthl ≠ .outPort p) := ⟨nofun, nofun⟩

/-- LoadImage: the last image that fits, and the first that does not. -/
theorem witness_LoadImage :
    (edgeState.Inv ∧ 0xFFFE + [0xAA#8, 0xBB#8].length ≤ 65536) ∧ 0xFFFF + [0xAA#8, 0xBB#8].length > 65536 := by decide

/-- StepReports: a Ready state for each report. -/
theorem witness_StepReports :
    (State.reset.storeBytes 0 [0x76]).Ready ∧ report (State.reset.storeBytes 0 [0x76]) = .halt ∧
    State.reset.Ready ∧ report State.reset = .ok 1 ∧
    illegalState.Ready ∧ report illegalState = .fault ⟨0, 0x08, .illegalOpcode, "0x0000: NOT IMPLEMENTED"⟩ := by decide

/-- RunEnds: a Ready state, and a run for each end; the run that goes on is `run 0`. -/
theorem witness_RunEnds :
    (State.reset.storeBytes 0 [0x76]).Ready ∧ (run 1 (State.reset.storeBytes 0 [0x76])).final ≠ none ∧
    illegalState.Ready ∧ (run 1 illegalState).state.faultPending = true ∧ run 0 illegalState = .running illegalState := by
  decide

/-- ByteAccess, WordAccess, PortAccess: each clause of the `if` at the top of its range. -/
theorem witness_accesses :
    (edgeState.Inv ∧ (0xFFFF : Word) = 0xFFFF) ∧ ((0x0000 : Word) ≠ 0xFFFF ∧ (0x0000 : Word) = 0xFFFF + 1) ∧
    ((0x0001 : Word) ≠ 0xFFFF ∧ (0x0001 : Word) ≠ 0xFFFF + 1) := ⟨⟨witness_inv, rfl⟩, by decide, by decide⟩

/-- PinAccess: a pin of either class, at the ends of the lists. -/
theorem witness_PinAccess :
    pinClassOf .reset = .readOnly ∧ pinClassOf .ready = .readOnly ∧ pinClassOf (.address 15) = .writeOnly ∧
    pinClassOf .hlda = .writeOnly := by decide

/-- LogicalPrimitives: the highest bit position. -/
theorem witness_LogicalPrimitives : (7 : Nat) < 8 := by decide

/-- The statements with register operands: `B` and `A`, the ends of the selector table, are not `M`. -/
theorem witness_register_operands : Reg8.b ≠ .m ∧ Reg8.a ≠ .m := by decide

/-- IndirectAndExchange and StackInstructions: the pairs they allow. -/
theorem witness_pair_operands :
    (Pair.bc = .bc ∨ Pair.bc = .de) ∧ (Pair.de = .bc ∨ Pair.de = .de) ∧ Pair.bc ≠ .sp ∧ Pair.hl ≠ .sp := by decide

/-- MemoryFrame: a push whose word wraps at 0xFFFF, and an address outside it; an untaken call stores nothing. -/
theorem witness_MemoryFrame :
    (∃ t, edgeState.Inv ∧ exec (.push .hl) edgeState = .next t ∧ (0x0001 : Word) ∉ storedAddresses (.push .hl) edgeState) ∧
    (∃ t, edgeState.Inv ∧ exec (.cz 0x0100) edgeState = .next t ∧ (0xFFFF : Word) ∉ storedAddresses (.cz 0x0100) edgeState) :=
  ⟨⟨_, witness_inv, rfl, by decide⟩, ⟨_, witness_inv, rfl, by decide⟩⟩

/-- RegisterFrame: both clauses. -/
theorem witness_RegisterFrame :
    ∃ t, exec (.dad .sp) edgeState = .next t ∧ Reg8.a ≠ .m ∧ Reg8.a ∉ writtenRegisters (.dad .sp) ∧
      writesSp (.dad .sp) = false := ⟨_, rfl, by decide, by decide, by decide⟩

/-- FlagFrame: `INR` keeps `Cy`. -/
theorem witness_FlagFrame :
    ∃ t, exec (.inrR .a) edgeState = .next t ∧ FlagName.cy ∉ writtenFlags (.inrR .a) := ⟨_, rfl, by decide⟩

/-- ControlFrame: an instruction that meets every clause's condition. -/
theorem witness_ControlFrame :
    ∃ t, Instr.ei.wellFormed = true ∧ exec .ei edgeState = .next t ∧ (∀ p, Instr.ei ≠ .outPort p) ∧ Instr.ei.legal = true :=
  ⟨_, rfl, rfl, nofun, rfl⟩

end Sys2Proof.Tests
end

section
/-!
PROOFS. The family of 10_state: the ports (O16), the register pairs (O23), the pin access (O27).
-/

namespace Sys2Proof.Machine

open Sys2Proof.Claims

/-! ## Non-interference: the fields that only `IN`, `OUT`, `EI` and `DI` read or write -/

/-- The pins and the ports replaced, and the counters shifted. -/
def State.mapUnread (pins : Pins → Pins) (ports : Memory → Memory) (cycles iter : Nat) (s : State) : State :=
  { s with
    pins := pins s.pins
    ports := ports s.ports
    cycles := s.cycles + cycles
    iter := s.iter + iter }

section
/-! `f` replaces the pins, `g` the ports; the counters are shifted by `c` and `n`. -/
variable (f : Pins → Pins) (g : Memory → Memory) (c n : Nat)

@[simp] theorem State.mapUnread_flags (s : State) : (s.mapUnread f g c n).flags = s.flags := rfl

/-! Each shared operation commutes with the replacement. -/

theorem reg8Write_mapUnread (r : Reg8) (v : Byte) (s : State) :
    reg8Write r v (s.mapUnread f g c n) = (reg8Write r v s).mapUnread f g c n := by
  cases r <;> rfl

theorem pairWrite_mapUnread (pair : Pair) (v : Word) (s : State) :
    pairWrite pair v (s.mapUnread f g c n) = (pairWrite pair v s).mapUnread f g c n := by
  cases pair <;> rfl

theorem State.commitKeepCy_mapUnread (s : State) (r : Reg8) (v : AluResult 8) :
    (s.mapUnread f g c n).commitKeepCy r v = (s.commitKeepCy r v).mapUnread f g c n := by
  cases r <;> rfl

/-- The commit adds to the counters, so it does not matter whether they are shifted before or after it. -/
theorem State.retire_mapUnread (s : State) (i : Instr) (target : Word) :
    (s.mapUnread f g c n).retire i target = (s.retire i target).mapUnread f g c n := by
  simp [State.mapUnread, State.retire, Nat.add_right_comm]

theorem completeAt_mapUnread (i : Instr) (target : Word) (s : State) :
    completeAt i target (s.mapUnread f g c n) = mapNext (State.mapUnread f g c n) (completeAt i target s) :=
  congrArg Host.Outcome.next (s.retire_mapUnread f g c n i target)

theorem completeValid_mapUnread (i : Instr) (s done : State) :
    completeValid i (s.mapUnread f g c n) (done.mapUnread f g c n) =
      mapNext (State.mapUnread f g c n) (completeValid i s done) := by
  unfold completeValid
  cases i.wellFormed with
  | true => exact completeAt_mapUnread f g c n i (done.npc i) done
  | false => rfl

theorem jumpIf_mapUnread (i : Instr) (cond : Cond) (a16 : Word) (s : State) :
    jumpIf i cond a16 (s.mapUnread f g c n) = mapNext (State.mapUnread f g c n) (jumpIf i cond a16 s) := by
  unfold jumpIf
  rw [State.mapUnread_flags]
  split <;> exact completeAt_mapUnread f g c n i _ s

theorem callTo_mapUnread (i : Instr) (target : Word) (s : State) :
    callTo i target (s.mapUnread f g c n) = mapNext (State.mapUnread f g c n) (callTo i target s) :=
  completeAt_mapUnread f g c n i target (s.push16 (s.npc i))

theorem callIf_mapUnread (i : Instr) (cond : Cond) (a16 : Word) (s : State) :
    callIf i cond a16 (s.mapUnread f g c n) = mapNext (State.mapUnread f g c n) (callIf i cond a16 s) := by
  unfold callIf
  rw [State.mapUnread_flags]
  split
  · exact callTo_mapUnread f g c n i a16 s
  · exact completeAt_mapUnread f g c n i (s.npc i) s

theorem returnTo_mapUnread (i : Instr) (s : State) :
    returnTo i (s.mapUnread f g c n) = mapNext (State.mapUnread f g c n) (returnTo i s) :=
  completeAt_mapUnread f g c n i s.stackTop s.dropTop

theorem returnIf_mapUnread (i : Instr) (cond : Cond) (s : State) :
    returnIf i cond (s.mapUnread f g c n) = mapNext (State.mapUnread f g c n) (returnIf i cond s) := by
  unfold returnIf
  rw [State.mapUnread_flags]
  split
  · exact returnTo_mapUnread f g c n i s
  · exact completeAt_mapUnread f g c n i (s.npc i) s

variable {f g c n}

/-! It is enough that the effect before the commit commutes with the replacement. -/

theorem exec_mapUnread_of_complete {i : Instr} {s done done' : State} (h : exec i s = complete i done)
    (h' : exec i (s.mapUnread f g c n) = complete i done') (hd : done' = done.mapUnread f g c n) :
    exec i (s.mapUnread f g c n) = mapNext (State.mapUnread f g c n) (exec i s) := by
  rw [h, h', hd]
  exact completeAt_mapUnread f g c n i (done.npc i) done

theorem exec_mapUnread_of_completeValid {i : Instr} {s done done' : State} (h : exec i s = completeValid i s done)
    (h' : exec i (s.mapUnread f g c n) = completeValid i (s.mapUnread f g c n) done')
    (hd : done' = done.mapUnread f g c n) :
    exec i (s.mapUnread f g c n) = mapNext (State.mapUnread f g c n) (exec i s) := by
  rw [h, h', hd, completeValid_mapUnread]

/-- No instruction but `IN`, `OUT`, `EI` and `DI` reads or writes a pin or a port, and none reads a counter. The cases
are the ways a step can end. -/
theorem exec_mapUnread {i : Instr} (hin : ∀ p, i ≠ .inPort p) (hout : ∀ p, i ≠ .outPort p) (hei : i ≠ .ei)
    (hdi : i ≠ .di) (s : State) :
    exec i (s.mapUnread f g c n) = mapNext (State.mapUnread f g c n) (exec i s) := by
  cases i with
  | inPort p => exact absurd rfl (hin p)
  | outPort p => exact absurd rfl (hout p)
  | ei => exact absurd rfl hei
  | di => exact absurd rfl hdi
  | illegal08 | illegal10 | illegal18 | illegal20 | illegal28 | illegal30 | illegal38 | illegalCB | illegalD9
  | illegalDD | illegalED | illegalFD => rfl
  | jnz | jz | jnc | jc | jpo | jpe | jp | jm => exact jumpIf_mapUnread f g c n _ _ _ s
  | cnz | cz | cnc | cc | cpo | cpe | cp | cm => exact callIf_mapUnread f g c n _ _ _ s
  | rnz | rz | rnc | rc | rpo | rpe | rp | rm => exact returnIf_mapUnread f g c n _ _ s
  | movRR | movRM | mviR => exact exec_mapUnread_of_completeValid rfl rfl (reg8Write_mapUnread f g c n _ _ s)
  | inrR | dcrR => exact exec_mapUnread_of_completeValid rfl rfl (s.commitKeepCy_mapUnread f g c n _ _)
  | pop pair =>
    exact exec_mapUnread_of_completeValid rfl rfl
      (congrArg State.dropTop (pairWrite_mapUnread f g c n pair s.stackTop s))
  | stax | ldax | movMR | addR | adcR | subR | sbbR | anaR | xraR | oraR | cmpR | push =>
    exact exec_mapUnread_of_completeValid rfl rfl rfl
  | lxi | inx | dcx => exact exec_mapUnread_of_complete rfl rfl (pairWrite_mapUnread f g c n _ _ s)
  | hlt | jmp | pchl => exact completeAt_mapUnread f g c n _ _ s
  | call | rst => exact callTo_mapUnread f g c n _ _ s
  | ret => exact returnTo_mapUnread f g c n _ s
  | _ => exact exec_mapUnread_of_complete rfl rfl rfl

end

/-! ## Pins -/

/-- A replaced bit reads as its new value, every other bit as before. -/
theorem replaceBit_getLsbD {w : Nat} (x : BitVec w) (i j : Fin w) (v : Bool) :
    (replaceBit x i v).getLsbD j = if j = i then v else x.getLsbD j := by
  have mask : (1#w <<< i.val).getLsbD j = decide (j = i) := by
    rw [← BitVec.twoPow_eq, BitVec.getLsbD_twoPow]
    simp [Fin.ext_iff, eq_comm]
  cases v with
  | true =>
    simp only [replaceBit, if_true, BitVec.getLsbD_or, mask]
    by_cases hj : j = i <;> simp [hj]
  | false =>
    simp only [replaceBit, Bool.false_eq_true, if_false, BitVec.getLsbD_and, BitVec.getLsbD_not, mask]
    by_cases hj : j = i <;> simp [hj]

/-- Setting a pin replaces the level of that pin and of no other. -/
theorem Pins.get_set (pins : Pins) (pin q : Pin) (v : Bool) :
    (pins.set pin v).get q = if q = pin then v else pins.get q := by
  cases pin with
  | address line =>
    cases q with
    | address other => simp only [Pins.get, Pins.set, replaceBit_getLsbD, Pin.address.injEq]
    | _ => rfl
  | data line =>
    cases q with
    | data other => simp only [Pins.get, Pins.set, replaceBit_getLsbD, Pin.data.injEq]
    | _ => rfl
  | inte | dbin | wr | sync | wait | hlda | reset | hold | int | phi1 | phi2 | ready => cases q <;> rfl

theorem pinAccess_of_readOnly {pin : Pin} (h : pinClassOf pin = .readOnly) (v : Bool) (s : State) :
    setPin pin v s = .error .unwritablePin ∧ getPin pin s = .ok (s.pins.get pin) := by
  simp [setPin, getPin, h]

theorem pinAccess_of_writeOnly {pin : Pin} (h : pinClassOf pin = .writeOnly) (v : Bool) (s : State) :
    getPin pin s = .error .unreadablePin ∧ setPin pin v s = .ok (s.setPins (s.pins.set pin v)) := by
  simp [setPin, getPin, h]

end Sys2Proof.Machine

namespace Sys2Proof.Claims

open Sys2Proof.Machine

/-- Settles O16: replacing the ports commutes with every instruction but `IN` and `OUT`; `EI` and `DI`, which
`exec_mapUnread` leaves out, drive a pin and no port. -/
theorem portsOnlyByInOut : Obligations.PortsOnlyByInOut := by
  intro i s m hin hout
  by_cases hei : i = .ei
  · subst hei; rfl
  by_cases hdi : i = .di
  · subst hdi; rfl
  exact exec_mapUnread (f := id) (g := fun _ => m) (c := 0) (n := 0) hin hout hei hdi s

/-- Settles O23, by the value of a joined pair and the round trip of its two halves. -/
theorem pairViews : Obligations.PairViews := by
  intro r v x
  have value (h l : Byte) : (joinBytes h l).toNat = 256 * h.toNat + l.toNat := by
    rw [joinBytes_toNat, Nat.mul_comm]
  have restored := joinBytes_high_low v
  exact ⟨⟨value r.b r.c, value r.d r.e, value r.h r.l⟩, ⟨rfl, restored⟩, ⟨rfl, restored⟩, ⟨rfl, restored⟩,
    ⟨rfl, rfl⟩, ⟨rfl, rfl⟩, ⟨rfl, rfl⟩⟩

/-- Settles O27, by the class of the pin; `INTE` is a write-only pin. -/
theorem pinAccess : Obligations.PinAccess := fun s pin q v =>
  ⟨fun h => pinAccess_of_readOnly h v s, fun h => pinAccess_of_writeOnly h v s, s.pins.get_set pin q v, rfl⟩

end Sys2Proof.Claims
end

section
/-!
PROOFS. The family of 20_memory: the byte access (O24) and the image load (O20).
-/

namespace Sys2Proof.Machine

/-! ## Byte access -/

/-- Reading after a byte write, at `Word` addresses. -/
theorem State.memWrite1_memRead1 {s : State} (h : s.Inv) (addr a : Word) (v : Byte) :
    (s.memWrite1 addr v).memRead1 a = if a = addr then v else s.memRead1 a := by
  simp only [State.memRead1, State.memWrite1_mem, Memory.read_write v a.toNat h.1, BitVec.toNat_inj]

/-! ## Storing a list of bytes -/

/-- Storing bytes changes memory alone. -/
theorem State.storeBytes_eq (s : State) (addr : Word) (bytes : List Byte) :
    s.storeBytes addr bytes = { s with mem := (s.storeBytes addr bytes).mem } := by
  induction bytes generalizing s addr with
  | nil => rfl
  | cons v rest ih => exact ih (s.memWrite1 addr v) (addr + 1)

/-- Reading after bytes are stored from `k` up, where no address wraps. The first byte is written before the rest, and
no byte of the rest stands at its address. -/
theorem State.storeBytes_memRead1 {s : State} (h : s.Inv) {bytes : List Byte} {k : Nat}
    (fits : k + bytes.length ≤ 65536) (a : Word) :
    (s.storeBytes (BitVec.ofNat 16 k) bytes).memRead1 a =
      if k ≤ a.toNat ∧ a.toNat < k + bytes.length then bytes.getD (a.toNat - k) 0#8 else s.memRead1 a := by
  induction bytes generalizing s k with
  | nil =>
    rw [List.length_nil, if_neg (by omega)]
    rfl
  | cons v rest ih =>
    rw [List.length_cons] at fits ⊢
    have next : BitVec.ofNat 16 k + 1 = BitVec.ofNat 16 (k + 1) := (BitVec.ofNat_add k 1).symm
    have first : a = BitVec.ofNat 16 k ↔ a.toNat = k := by bv_omega
    rw [State.storeBytes, next, ih (State.memWrite1_inv _ v h) (by omega), State.memWrite1_memRead1 h]
    rcases Nat.lt_trichotomy a.toNat k with below | here | above
    · rw [if_neg (by omega), if_neg (mt first.mp (by omega)), if_neg (by omega)]
    · rw [if_neg (by omega), if_pos (first.mpr here), if_pos (by omega), here, Nat.sub_self, List.getD_cons_zero]
    · have shift : a.toNat - k = a.toNat - (k + 1) + 1 := by omega
      rw [shift, List.getD_cons_succ, if_neg (mt first.mp (by omega))]
      exact if_congr (by omega) rfl rfl

/-! ## Loading an image -/

theorem loadImage_of_fits {bytes : List Byte} {offset : Nat} (fits : offset + bytes.length ≤ 65536) (s : State) :
    loadImage bytes offset s = .ok (s.storeBytes (BitVec.ofNat 16 offset) bytes) := if_pos fits

theorem loadImage_of_overflow {bytes : List Byte} {offset : Nat} (tooLong : offset + bytes.length > 65536)
    (s : State) :
    loadImage bytes offset s = .error .imageLoadOverflow := if_neg (Nat.not_le.mpr tooLong)

end Sys2Proof.Machine

namespace Sys2Proof.Claims

open Sys2Proof.Machine

/-- Settles O24, by reading after a write of the canonical memory. -/
theorem byteAccess : Obligations.ByteAccess := fun _ addr a v h =>
  ⟨State.memWrite1_memRead1 h addr a v, rfl⟩

/-- Settles O20: an image that fits is its bytes stored from the offset up, none of which wraps. -/
theorem loadImage : Obligations.LoadImage := fun bytes offset s h =>
  ⟨fun fits => ⟨s.storeBytes (BitVec.ofNat 16 offset) bytes, loadImage_of_fits fits s,
      s.storeBytes_eq (BitVec.ofNat 16 offset) bytes, State.storeBytes_memRead1 h fits⟩,
    fun tooLong => loadImage_of_overflow tooLong s⟩

end Sys2Proof.Claims
end

section
/-!
PROOFS. The family of 30_encoding: the opcode bytes the source document shows (O3) and the selector tables (O22).
-/

namespace Sys2Proof

/-! ## Decoding a list of bytes, by the number of extra bytes the opcode announces (30_encoding R98) -/

theorem decodeBytes_of_noExtraBytes {op : Byte} (h : extraBytes op = 0) (rest : List Byte) :
    decodeBytes (op :: rest) = .ok (decode op 0 0, rest) := by
  simp only [decodeBytes, h]

theorem decodeBytes_of_oneExtraByte {op : Byte} (h : extraBytes op = 1) (b2 : Byte) (rest : List Byte) :
    decodeBytes (op :: b2 :: rest) = .ok (decode op b2 0, rest) := by
  simp only [decodeBytes, h]

theorem decodeBytes_of_twoExtraBytes {op : Byte} (h : extraBytes op = 2) (b2 b3 : Byte) (rest : List Byte) :
    decodeBytes (op :: b2 :: b3 :: rest) = .ok (decode op b2 b3, rest) := by
  simp only [decodeBytes, h]

/-! ## The selectors in the order of their codes -/

/-- The codes 0 to 7 select each register once, `M` at 6 (30_encoding R100). -/
theorem Reg8.map_ofCode {α : Type} (f : Reg8 → α) :
    [0, 1, 2, 3, 4, 5, 6, 7].map (fun n => f (Reg8.ofCode (BitVec.ofNat 3 n))) =
      [f .b, f .c, f .d, f .e, f .h, f .l, f .m, f .a] := rfl

/-- The codes 0 to 3 select each pair once (30_encoding R102). -/
theorem Pair.map_ofCode {α : Type} (f : Pair → α) :
    [0, 1, 2, 3].map (fun n => f (Pair.ofCode (BitVec.ofNat 2 n))) = [f .bc, f .de, f .hl, f .sp] := rfl

end Sys2Proof

namespace Sys2Proof.Claims

open Sys2Proof.Machine

/-- Settles O3: each opcode byte announces the bytes that follow it, and decodes with them as published. -/
theorem publishedOpcodes : Obligations.PublishedOpcodes :=
  ⟨decodeBytes_of_oneExtraByte (op := 0x3E) (by decide) 0x05 [], decodeBytes_of_noExtraBytes (op := 0x47) (by decide) [],
    decodeBytes_of_noExtraBytes (op := 0x3C) (by decide) [],
    decodeBytes_of_twoExtraBytes (op := 0xC3) (by decide) 0x10 0x00 [],
    decodeBytes_of_noExtraBytes (op := 0x76) (by decide) []⟩

/-- Settles O22: the accessors of the selectors, in the order of their codes. -/
theorem selectorTables : Obligations.SelectorTables := fun s v w =>
  ⟨Reg8.map_ofCode fun r => reg8Read r s, Reg8.map_ofCode fun r => reg8Write r v s,
    Pair.map_ofCode fun pair => pairRead pair s, Pair.map_ofCode fun pair => pairWrite pair w s⟩

end Sys2Proof.Claims
end

section
/-!
PROOFS. The family of 40_alu: the laws of the byte primitives (O33), the flags of a result byte (O28) and the logical
primitives (O31).
-/

namespace Sys2Proof.Machine

/-! ## Sums and differences, modulo 2^8 (40_alu R132, R133) -/

theorem ofInt_sub {w : Nat} (x y : Int) : BitVec.ofInt w (x - y) = BitVec.ofInt w x - BitVec.ofInt w y := by
  rw [Int.sub_eq_add_neg, BitVec.ofInt_add, BitVec.ofInt_neg, BitVec.sub_eq_add_neg]

theorem add8_value (a b : Byte) (cin : Bool) : (add8 a b cin).value = a + b + BitVec.ofNat 8 (carryIn cin) := by
  simp [add8, BitVec.ofNat_add]

theorem sub8_value (a b : Byte) (cin : Bool) : (sub8 a b cin).value = a - b - BitVec.ofNat 8 (carryIn cin) := by
  simp [sub8, ofInt_sub]

/-- The add/sub symmetry (40_alu R140), where no carry-in is used. -/
theorem sub8_add8_value (a b : Byte) : (sub8 (add8 a b false).value b false).value = a := by
  have noCarry : BitVec.ofNat 8 (carryIn false) = 0#8 := rfl
  rw [sub8_value, add8_value, noCarry, BitVec.add_zero, BitVec.sub_zero, BitVec.add_sub_cancel]

/-! ## Zero, sign and parity of a result byte (40_alu R131) -/

theorem flagsOf_z_iff (r : Byte) (cy ac : Bool) : (flagsOf r cy ac).z = true ↔ r.toNat = 0 :=
  decide_eq_true_iff.trans BitVec.toNat_inj.symm

theorem flagsOf_s_iff (r : Byte) (cy ac : Bool) : (flagsOf r cy ac).s = true ↔ r.toNat ≥ 128 := by
  rw [flagsOf_s, ← BitVec.msb_eq_getLsbD_last r, BitVec.msb_eq_decide, decide_eq_true_iff]

theorem flagsOf_p_iff (r : Byte) (cy ac : Bool) : (flagsOf r cy ac).p = true ↔ popcount r % 2 = 0 :=
  decide_eq_true_iff

theorem parityEven_eq_not_bodd (r : Byte) : parityEven r = !(popcount r).bodd := by
  rw [parityEven, Nat.mod_two_of_bodd]
  cases (popcount r).bodd <;> rfl

theorem bodd_toNat (b : Bool) : b.toNat.bodd = b := by cases b <;> rfl

/-- A sum of bits is odd when their exclusive or is 1. -/
theorem bodd_popcount (r : Byte) :
    (popcount r).bodd = (r.getLsbD 7 ^^ r.getLsbD 6 ^^ r.getLsbD 5 ^^ r.getLsbD 4 ^^ r.getLsbD 3 ^^ r.getLsbD 2 ^^
      r.getLsbD 1 ^^ r.getLsbD 0) := by
  have highFirst : popcount r = ((List.range 8).reverse.map fun i => (r.getLsbD i).toNat).sum := by
    rw [List.map_reverse, List.sum_reverse, popcount]
  simp [highFirst, List.range_succ, Nat.bodd_add, bodd_toNat]

/-! ## How many bytes have even parity (40_alu R141) -/

/-- An odd value has the bits of the even value below it, and bit 0. -/
theorem popcount_odd (m : Nat) :
    popcount (BitVec.ofNat 8 (2 * m + 1)) = popcount (BitVec.ofNat 8 (2 * m)) + 1 := by
  have shift : (2 * m + 1) / 2 = 2 * m / 2 := by omega
  simp only [popcount, List.range_succ_eq_map (n := 7), List.map_cons, List.map_map, List.sum_cons, Function.comp_def,
    BitVec.getLsbD_ofNat, Nat.testBit_succ, shift]
  simp [Nat.add_comm]

theorem parityEven_odd (m : Nat) :
    parityEven (BitVec.ofNat 8 (2 * m + 1)) = !parityEven (BitVec.ofNat 8 (2 * m)) := by
  rw [parityEven_eq_not_bodd, parityEven_eq_not_bodd, popcount_odd, Nat.bodd_succ]

/-- Of each even value and the odd one above it, exactly one has even parity: half of the values below `2 * k`. -/
theorem length_filter_parityEven (k : Nat) :
    ((List.range (2 * k)).filter (fun n => parityEven (BitVec.ofNat 8 n))).length = k := by
  rw [← List.countP_eq_length_filter]
  induction k with
  | zero => rfl
  | succ k ih =>
    rw [Nat.mul_succ, List.range_succ, List.range_succ, List.countP_append, List.countP_append, ih,
      List.countP_singleton, List.countP_singleton, parityEven_odd]
    cases parityEven (BitVec.ofNat 8 (2 * k)) <;> rfl

/-! ## Logical results (40_alu R136, R137) -/

theorem or8_zero (r : Byte) : or8 r 0#8 = logical8 r := congrArg logical8 BitVec.or_zero

theorem xor8_self (a : Byte) : xor8 a a = logical8 0#8 := congrArg logical8 BitVec.xor_self

end Sys2Proof.Machine

namespace Sys2Proof.Claims

open Sys2Proof.Machine

/-- Settles O33: the sum and the difference are taken modulo 2^8, and parity changes from each even byte to the next. -/
theorem bytePrimitiveLaws : Obligations.BytePrimitiveLaws :=
  ⟨sub8_add8_value,
    fun a b => ⟨flagsOf_p_iff (a &&& b) false false, flagsOf_p_iff (a ||| b) false false,
      flagsOf_p_iff (a ^^^ b) false false⟩,
    by simp only [or8_zero]; exact length_filter_parityEven 128⟩

/-- Settles O28: `P` is the negated parity of the bit sum, which is the exclusive or of the bits. -/
theorem resultFlags : Obligations.ResultFlags := fun r cy ac =>
  ⟨flagsOf_z_iff r cy ac, flagsOf_s_iff r cy ac,
    by rw [flagsOf_p, parityEven_eq_not_bodd, bodd_popcount], flagsOf_p_iff r cy ac⟩

/-- Settles O31: the three primitives are `logical8` of the bitwise operation, and `Xor8(a, a)` is that of 0. -/
theorem logicalPrimitives : Obligations.LogicalPrimitives := fun a _ =>
  ⟨fun _ _ => ⟨BitVec.getLsbD_and, BitVec.getLsbD_or, BitVec.getLsbD_xor⟩, rfl, rfl, rfl, xor8_self a⟩

end Sys2Proof.Claims
end

section
/-!
PROOFS. The family of 41_data_transfer: `MOV` (O36), `MVI` and `LXI` (O37), the direct loads and stores (O38), the
indirect ones and `XCHG` (O39).
-/

namespace Sys2Proof.Machine

open Sys2Proof.Claims

/-! ## From the end of an instruction to `Runs`: the bytes and the commit are the same for every instruction -/

/-- An instruction that ends at a target it assigned, its effect before that leaving the counters alone. -/
theorem runs_of_completeAt {i : Instr} {s done : State} {target : Word} (h : exec i s = completeAt i target done)
    (hc : done.cycles = s.cycles := by simp) (hi : done.iter = s.iter := by simp) :
    Runs i (encode i) s done target := by
  refine ⟨rfl, h.trans ?_⟩
  rw [completeAt_eq, State.retire, hc, hi]
  rfl

/-- An instruction that ends at the address after it. -/
theorem runs_of_complete {i : Instr} {s done : State} (h : exec i s = complete i done)
    (hp : done.pc = s.pc := by simp) (hc : done.cycles = s.cycles := by simp)
    (hi : done.iter = s.iter := by simp) : Runs i (encode i) s done (s.npc i) := by
  have target : done.npc i = s.npc i := by rw [State.npc, State.npc, hp]
  exact target ▸ runs_of_completeAt h hc hi

/-- An instruction with allowed selectors that ends at the address after it. -/
theorem runs_of_completeValid {i : Instr} {s done : State} (hw : i.wellFormed = true)
    (h : exec i s = completeValid i s done) (hp : done.pc = s.pc := by simp)
    (hc : done.cycles = s.cycles := by simp) (hi : done.iter = s.iter := by simp) :
    Runs i (encode i) s done (s.npc i) :=
  runs_of_complete (h.trans (completeValid_of_wellFormed hw s done)) hp hc hi

/-! ## Effects that the statements write out half by half -/

@[simp] theorem withA_eq_setA (s : State) (v : Byte) : withA s v = s.setA v := rfl

/-- A word read into `HL`: the low byte of the address goes to `L`, the byte above it to `H` (R158). -/
theorem pairWrite_hl_memRead2 (s : State) (addr : Word) :
    pairWrite .hl (s.memRead2 addr) s =
      { s with regs := { s.regs with l := s.memRead1 addr, h := s.memRead1 (addr + 1) } } := by
  simp [pairWrite, State.memRead2, Regs.setHL, State.setRegs]

/-- `HL` stored as a word: `L` at the address, `H` above it (R159). -/
theorem State.memWrite2_hl (s : State) (addr : Word) :
    s.memWrite2 addr s.regs.hl = (s.memWrite1 addr s.regs.l).memWrite1 (addr + 1) s.regs.h := by
  simp [State.memWrite2, Regs.hl]

/-- `HL` and `DE` exchanged: `H` and `D` swap, `L` and `E` swap (R162). -/
theorem pairWrite_exchange (s : State) :
    pairWrite .de (pairRead .hl s) (pairWrite .hl (pairRead .de s) s) =
      { s with regs := { s.regs with d := s.regs.h, e := s.regs.l, h := s.regs.d, l := s.regs.e } } := by
  simp [pairWrite, pairRead, Regs.hl, Regs.de, Regs.setHL, Regs.setDE, State.setRegs]

/-! ## Allowed selectors -/

theorem isRegister_of_ne_m {r : Reg8} (h : r ≠ .m) : r.isRegister = true := decide_eq_true h

theorem movRR_wellFormed {dst src : Reg8} (hd : dst ≠ .m) (hs : src ≠ .m) :
    (Instr.movRR dst src).wellFormed = true :=
  Bool.and_eq_true_iff.mpr ⟨isRegister_of_ne_m hd, isRegister_of_ne_m hs⟩

end Sys2Proof.Machine

namespace Sys2Proof.Claims

open Sys2Proof.Machine

/-- Settles O36: each form is a selector read, then a selector write, and `M` is the selector of the byte at `HL`. -/
theorem moveInstructions : Obligations.MoveInstructions := fun _ _ _ hd hr =>
  ⟨runs_of_completeValid (movRR_wellFormed hd hr) rfl, runs_of_completeValid (isRegister_of_ne_m hd) rfl,
    runs_of_completeValid (isRegister_of_ne_m hr) rfl⟩

/-- Settles O37: `MVI` is a selector write and `LXI` a pair write of the operand. -/
theorem immediateLoads : Obligations.ImmediateLoads := fun _ _ _ _ _ hr =>
  ⟨runs_of_completeValid (isRegister_of_ne_m hr) rfl, runs_of_complete rfl, runs_of_complete rfl⟩

/-- Settles O38: the word forms move `L` and `H` as the low and the high byte. -/
theorem directLoadsAndStores : Obligations.DirectLoadsAndStores := fun s a16 =>
  ⟨runs_of_complete rfl, runs_of_complete rfl,
    runs_of_complete (congrArg (complete (.lhld a16)) (pairWrite_hl_memRead2 s a16)),
    runs_of_complete (congrArg (complete (.shld a16)) (s.memWrite2_hl a16))⟩

/-- Settles O39: `LDAX` and `STAX` allow exactly the pairs `BC` and `DE`; `XCHG` is two pair writes. -/
theorem indirectAndExchange : Obligations.IndirectAndExchange := fun s _ hpair =>
  have allowed := decide_eq_true hpair
  ⟨runs_of_completeValid allowed rfl, runs_of_completeValid allowed rfl,
    runs_of_complete (congrArg (complete .xchg) (pairWrite_exchange s))⟩

end Sys2Proof.Claims
end

section
/-!
PROOFS. The family of 42_arithmetic: the additions (O40), the subtractions and compares (O41), `INX` and `DCX` (O44),
`DAA` (O46).
-/

namespace Sys2Proof.Machine

open Sys2Proof.Claims

/-! ## The accumulator commit (42_arithmetic R170 to R181) -/

@[simp] theorem accumulate_eq_commitA (s : State) (r : AluResult 8) : accumulate s r = s.commitA r := rfl

/-! ## A pair plus a number, modulo 2^16 (42_arithmetic R186, R187) -/

theorem Word.ofNat_toNat_add (v : Word) (n : Nat) : BitVec.ofNat 16 (v.toNat + n) = v + BitVec.ofNat 16 n := by
  rw [BitVec.ofNat_add, BitVec.ofNat_toNat, BitVec.setWidth_eq]

/-- Modulo 2^16, subtracting 1 is adding 65535. -/
theorem Word.sub_one (v : Word) : v - 1 = BitVec.ofNat 16 (v.toNat + 65535) := by
  have negOne : (-1 : Word) = BitVec.ofNat 16 65535 := rfl
  rw [Word.ofNat_toNat_add, BitVec.sub_eq_add_neg, negOne]

/-! ## `DAA` in numbers (42_arithmetic R189) -/

/-- The two corrections together stay below 2^8, so the correction byte is their sum as numbers. -/
theorem daaCorrection_toNat (a : Byte) (f : Flags) :
    (daaCorrection a f).toNat =
      (if f.ac = true ∨ a.toNat % 16 > 9 then 0x06 else 0x00) +
        (if f.cy = true ∨ a.toNat / 16 > 9 ∨ (a.toNat / 16 ≥ 9 ∧ a.toNat % 16 > 9) then 0x60 else 0x00) := by
  unfold daaCorrection lowNibble
  split <;> split <;> rfl

/-- `Cy` is left 1 exactly when the high correction is applied: an old `Cy` of 1 asks for it too. -/
theorem daaCarry_eq (a : Byte) (f : Flags) :
    daaCarry a f =
      decide (f.cy = true ∨ a.toNat / 16 > 9 ∨ (a.toNat / 16 ≥ 9 ∧ a.toNat % 16 > 9)) := by
  rw [Bool.decide_or, Bool.decide_eq_true, daaCarry, lowNibble]

/-- `DAA` as a sum of numbers: `Add8` of the correction with no carry-in, its `Cy` overwritten. -/
theorem daa8_eq {a : Byte} {f : Flags} {corr : Nat} (h : (daaCorrection a f).toNat = corr) :
    daa8 a f = ⟨BitVec.ofNat 8 (a.toNat + corr),
      flagsOf (BitVec.ofNat 8 (a.toNat + corr)) (daaCarry a f) (decide (a.toNat % 16 + corr % 16 > 0xF))⟩ := by
  subst h
  rfl

end Sys2Proof.Machine

namespace Sys2Proof.Claims

open Sys2Proof.Machine

/-- Settles O40: each form commits `Add8` of `A` and its operand; the form with `M` reads the byte at `HL`. -/
theorem addInstructions : Obligations.AddInstructions := fun _ _ _ hr =>
  have register := isRegister_of_ne_m hr
  ⟨runs_of_completeValid register rfl, runs_of_complete rfl, runs_of_complete rfl,
    runs_of_completeValid register rfl, runs_of_complete rfl, runs_of_complete rfl⟩

/-- Settles O41: each subtraction commits `Sub8` of `A` and its operand; each compare commits the flags alone. -/
theorem subtractAndCompare : Obligations.SubtractAndCompare := fun _ _ _ hr =>
  have register := isRegister_of_ne_m hr
  ⟨runs_of_completeValid register rfl, runs_of_complete rfl, runs_of_complete rfl,
    runs_of_completeValid register rfl, runs_of_complete rfl, runs_of_complete rfl,
    runs_of_completeValid register rfl, runs_of_complete rfl, runs_of_complete rfl⟩

/-- Settles O44: `INX` and `DCX` are pair writes, of the pair plus 1 and plus 65535 modulo 2^16. -/
theorem pairIncrementAndDecrement : Obligations.PairIncrementAndDecrement := fun s pair =>
  have incremented := (Word.ofNat_toNat_add (pairRead pair s) 1).symm
  have decremented := Word.sub_one (pairRead pair s)
  ⟨runs_of_complete (congrArg (fun v => complete (.inx pair) (pairWrite pair v s)) incremented),
    runs_of_complete (congrArg (fun v => complete (.dcx pair) (pairWrite pair v s)) decremented)⟩

/-- Settles O46: `DAA` commits the sum with the correction; `Cy` and the high correction have one condition. -/
theorem decimalAdjust : Obligations.DecimalAdjust := fun s =>
  have adjusted := (daaCarry_eq s.regs.a s.flags) ▸ daa8_eq (daaCorrection_toNat s.regs.a s.flags)
  runs_of_complete (congrArg (fun r => complete .daa (s.commitA r)) adjusted)

end Sys2Proof.Claims
end

section
/-!
PROOFS. The family of 43_logical: the logical instructions (O42), the rotates, `CMA`, `CMC` and `STC` (O47).
-/

namespace Sys2Proof.Machine

open Sys2Proof.Claims

/-! ## The bits that leave `A`, as numbers (43_logical R202 to R205) -/

theorem getLsbD_seven_eq_decide (a : Byte) : a.getLsbD 7 = decide (a.toNat ≥ 128) := by
  rw [← BitVec.msb_eq_getLsbD_last a, BitVec.msb_eq_decide]

theorem getLsbD_zero_eq_decide (a : Byte) : a.getLsbD 0 = decide (a.toNat % 2 = 1) :=
  Nat.testBit_zero a.toNat

theorem toNat_getLsbD_seven (a : Byte) : (a.getLsbD 7).toNat = a.toNat / 128 := by
  have range := a.isLt
  rw [BitVec.getLsbD, Nat.toNat_testBit]
  omega

theorem toNat_getLsbD_zero (a : Byte) : (a.getLsbD 0).toNat = a.toNat % 2 := by
  rw [BitVec.getLsbD, Nat.toNat_testBit, Nat.pow_zero, Nat.div_one]

/-! ## The shifts through a bit, in numbers -/

theorem flagBit_toNat (f : Bool) (i : Nat) : (flagBit f i).toNat = f.toNat * 2 ^ i % 256 := by
  cases f with
  | false => simp [flagBit]
  | true => rw [Bool.toNat_true, Nat.one_mul]; exact BitVec.toNat_twoPow 8 i

/-- A flag put into a bit that is 0 is added to the byte: no carry arises. -/
theorem or_flagBit_eq_add {x : Byte} {i : Nat} (vacated : x.getLsbD i = false) (f : Bool) :
    x ||| flagBit f i = x + flagBit f i := by
  have disjoint : x &&& flagBit f i = 0#8 := by
    cases f with
    | false => exact BitVec.and_zero
    | true => exact (BitVec.and_twoPow x i).trans (by rw [vacated]; rfl)
  exact (BitVec.add_eq_or_of_and_eq_zero x (flagBit f i) disjoint).symm

theorem shiftLeftIn_eq_ofNat (a : Byte) (low : Bool) :
    shiftLeftIn a low = BitVec.ofNat 8 (2 * a.toNat % 256 + low.toNat) := by
  have vacated : (a <<< 1).getLsbD 0 = false := by simp
  rw [shiftLeftIn, or_flagBit_eq_add vacated]
  apply BitVec.eq_of_toNat_eq
  rw [BitVec.toNat_add, BitVec.toNat_shiftLeft, flagBit_toNat, Nat.shiftLeft_eq, BitVec.toNat_ofNat]
  omega

theorem shiftRightIn_eq_ofNat (a : Byte) (high : Bool) :
    shiftRightIn a high = BitVec.ofNat 8 (a.toNat / 2 + 128 * high.toNat) := by
  have vacated : (a >>> 1).getLsbD 7 = false := by simp
  rw [shiftRightIn, or_flagBit_eq_add vacated]
  apply BitVec.eq_of_toNat_eq
  rw [BitVec.toNat_add, BitVec.toNat_ushiftRight, flagBit_toNat, Nat.shiftRight_eq_div_pow, BitVec.toNat_ofNat]
  omega

/-- `A` moved left by one place around itself (43_logical R202). -/
theorem shiftLeftIn_getLsbD_seven (a : Byte) :
    shiftLeftIn a (a.getLsbD 7) = BitVec.ofNat 8 (2 * a.toNat % 256 + a.toNat / 128) := by
  rw [shiftLeftIn_eq_ofNat, toNat_getLsbD_seven]

/-- `A` moved right by one place around itself (43_logical R203). -/
theorem shiftRightIn_getLsbD_zero (a : Byte) :
    shiftRightIn a (a.getLsbD 0) = BitVec.ofNat 8 (a.toNat / 2 + 128 * (a.toNat % 2)) := by
  rw [shiftRightIn_eq_ofNat, toNat_getLsbD_zero]

/-- The complement, as a difference of numbers (43_logical R206). -/
theorem xor_ones_eq_ofNat (a : Byte) : a ^^^ 0xFF#8 = BitVec.ofNat 8 (255 - a.toNat) := by
  have complement : a ^^^ 0xFF#8 = ~~~a := BitVec.xor_allOnes
  have range : 255 - a.toNat < 256 := by omega
  rw [complement]
  apply BitVec.eq_of_toNat_eq
  rw [BitVec.toNat_not, BitVec.toNat_ofNat, Nat.mod_eq_of_lt range]

/-! ## The end of a rotate -/

@[simp] theorem withCy_eq_setCy (s : State) (v : Bool) : withCy s v = s.setCy v := rfl

/-- A rotate ends at the address after it, with `A` and `Cy` written and nothing else. -/
theorem runs_of_complete_setA_setCy {i : Instr} {s : State} {v v' : Byte} {c c' : Bool}
    (h : exec i s = complete i ((s.setA v).setCy c)) (hv : v = v') (hc : c = c') :
    Runs i (encode i) s (withCy (withA s v') c') (s.npc i) := by
  subst hv hc
  exact runs_of_complete h

end Sys2Proof.Machine

namespace Sys2Proof.Claims

open Sys2Proof.Machine

/-- Settles O42: each form commits the logical result of `A` and its operand; the form with `M` reads the byte at
`HL`. -/
theorem logicalInstructions : Obligations.LogicalInstructions := fun _ _ _ hr =>
  have register := isRegister_of_ne_m hr
  ⟨runs_of_completeValid register rfl, runs_of_complete rfl, runs_of_complete rfl,
    runs_of_completeValid register rfl, runs_of_complete rfl, runs_of_complete rfl,
    runs_of_completeValid register rfl, runs_of_complete rfl, runs_of_complete rfl⟩

/-- Settles O47: a rotate shifts `A` by one place, with its own bit or the old `Cy` put in, and the bit that leaves goes
to `Cy`; the shift and the complement are those of numbers. -/
theorem rotateComplementCarry : Obligations.RotateComplementCarry := fun s =>
  have leavesLeft := getLsbD_seven_eq_decide s.regs.a
  have leavesRight := getLsbD_zero_eq_decide s.regs.a
  ⟨runs_of_complete_setA_setCy rfl (shiftLeftIn_getLsbD_seven s.regs.a) leavesLeft,
    runs_of_complete_setA_setCy rfl (shiftRightIn_getLsbD_zero s.regs.a) leavesRight,
    runs_of_complete_setA_setCy rfl (shiftLeftIn_eq_ofNat s.regs.a s.flags.cy) leavesLeft,
    runs_of_complete_setA_setCy rfl (shiftRightIn_eq_ofNat s.regs.a s.flags.cy) leavesRight,
    runs_of_complete (congrArg (fun v => complete .cma (s.setA v)) (xor_ones_eq_ofNat s.regs.a)),
    runs_of_complete rfl, runs_of_complete rfl⟩

end Sys2Proof.Claims
end

section
/-!
PROOFS. The family of 44_branch: the jumps (O48), the calls and `RST` (O49), the returns (O50).
-/

namespace Sys2Proof.Machine

open Sys2Proof.Claims

/-! ## The stack accesses of a transfer (44_branch R220, R229) -/

@[simp] theorem pushed_eq_push16 (s : State) (v : Word) : pushed s v = s.push16 v := rfl

@[simp] theorem popped_eq_dropTop (s : State) : popped s = s.dropTop := rfl

/-- The target of `RST n` as a number: a shift by three places is a product with 8 (44_branch R238). -/
theorem rstTarget_eq_ofNat (n : BitVec 3) : rstTarget n = BitVec.ofNat 16 (8 * n.toNat) := by
  have range := n.isLt
  apply BitVec.eq_of_toNat_eq
  rw [rstTarget, BitVec.toNat_shiftLeft, BitVec.toNat_setWidth, Nat.shiftLeft_eq, BitVec.toNat_ofNat]
  omega

/-! ## From a transfer to `Runs` -/

/-- A call that is always taken (44_branch R220). -/
theorem runs_of_callTo {i : Instr} {s : State} {target : Word} (h : exec i s = callTo i target s) :
    Runs i (encode i) s (pushed s (s.npc i)) target :=
  runs_of_completeAt h

/-- A return that is always taken (44_branch R229). -/
theorem runs_of_returnTo {i : Instr} {s : State} (h : exec i s = returnTo i s) :
    Runs i (encode i) s (popped s) (s.memRead2 s.sp) :=
  runs_of_completeAt h

section
/-! `holds` is a condition code in terms of its flag (44_branch R210). -/
variable {i : Instr} {s : State} {cond : Cond} {p : Prop} [Decidable p]

/-- What the three shared rules have in common: a taken transfer ends at its target with its effect `done`, an untaken
one at the address after it with none. -/
theorem runs_of_transferIf {done : State} {target : Word}
    (h : exec i s = if condHolds cond s.flags then completeAt i target done else complete i s)
    (holds : condHolds cond s.flags = true ↔ p) (hc : done.cycles = s.cycles := by simp)
    (hi : done.iter = s.iter := by simp) :
    Runs i (encode i) s (if p then done else s) (if p then target else s.npc i) := by
  simp only [holds] at h
  split at h
  next taken => rw [if_pos taken, if_pos taken]; exact runs_of_completeAt h hc hi
  next untaken => rw [if_neg untaken, if_neg untaken]; exact runs_of_complete h

/-- The shared rule of the conditional jumps (44_branch R310). -/
theorem runs_of_jumpIf {a16 : Word} (h : exec i s = jumpIf i cond a16 s) (holds : condHolds cond s.flags = true ↔ p) :
    Runs i (encode i) s s (if p then a16 else s.npc i) := by
  simpa only [ite_self] using runs_of_transferIf h holds

/-- The shared rule of the conditional calls (44_branch R311). -/
theorem runs_of_callIf {a16 : Word} (h : exec i s = callIf i cond a16 s) (holds : condHolds cond s.flags = true ↔ p) :
    Runs i (encode i) s (if p then pushed s (s.npc i) else s) (if p then a16 else s.npc i) :=
  runs_of_transferIf h holds

/-- The shared rule of the conditional returns (44_branch R312). -/
theorem runs_of_returnIf (h : exec i s = returnIf i cond s) (holds : condHolds cond s.flags = true ↔ p) :
    Runs i (encode i) s (if p then popped s else s) (if p then s.memRead2 s.sp else s.npc i) :=
  runs_of_transferIf h holds

end

/-! ## The condition codes that ask for a clear flag (44_branch R210); the others are the flag itself -/

theorem condHolds_nz_iff (f : Flags) : condHolds .nz f = true ↔ f.z = false := iff_of_eq (Bool.not_eq_true' f.z)

theorem condHolds_nc_iff (f : Flags) : condHolds .nc f = true ↔ f.cy = false := iff_of_eq (Bool.not_eq_true' f.cy)

theorem condHolds_po_iff (f : Flags) : condHolds .po f = true ↔ f.p = false := iff_of_eq (Bool.not_eq_true' f.p)

end Sys2Proof.Machine

namespace Sys2Proof.Claims

open Sys2Proof.Machine

/-- Settles O48: `JMP` and `PCHL` end at the target they assign; the conditional jumps share one rule, each with the
flag of its condition code. -/
theorem jumpInstructions : Obligations.JumpInstructions := fun s _ =>
  ⟨runs_of_completeAt rfl, runs_of_jumpIf rfl (condHolds_nz_iff s.flags), runs_of_jumpIf rfl Iff.rfl,
    runs_of_jumpIf rfl (condHolds_nc_iff s.flags), runs_of_jumpIf rfl Iff.rfl,
    runs_of_jumpIf rfl (condHolds_po_iff s.flags), runs_of_jumpIf rfl Iff.rfl, runs_of_completeAt rfl⟩

/-- Settles O49: every call pushes the address after it; `RST` is a call whose target is written as a shift and is
the product with 8. -/
theorem callInstructions : Obligations.CallInstructions := fun s _ n =>
  ⟨runs_of_callTo rfl, runs_of_callIf rfl (condHolds_nz_iff s.flags), runs_of_callIf rfl Iff.rfl,
    runs_of_callIf rfl (condHolds_nc_iff s.flags), runs_of_callIf rfl Iff.rfl,
    runs_of_callIf rfl (condHolds_po_iff s.flags), runs_of_callIf rfl Iff.rfl,
    runs_of_callTo (congrArg (fun target => callTo (.rst n) target s) (rstTarget_eq_ofNat n))⟩

/-- Settles O50: every return pops the word at `SP`; the conditional returns share one rule. -/
theorem returnInstructions : Obligations.ReturnInstructions := fun s =>
  ⟨runs_of_returnTo rfl, runs_of_returnIf rfl (condHolds_nz_iff s.flags), runs_of_returnIf rfl Iff.rfl,
    runs_of_returnIf rfl (condHolds_nc_iff s.flags), runs_of_returnIf rfl Iff.rfl,
    runs_of_returnIf rfl (condHolds_po_iff s.flags), runs_of_returnIf rfl Iff.rfl⟩

end Sys2Proof.Claims
end

section
/-!
PROOFS. The family of 45_stack_io_control: the stack instructions (O52), `OUT`, `EI`, `DI` and `NOP` (O54).
-/

namespace Sys2Proof.Machine

open Sys2Proof.Claims

/-- The two halves written to `H` and `L` are one pair write (45_stack R244). -/
@[simp] theorem withHL_eq_pairWrite (s : State) (v : Word) : withHL s v = pairWrite .hl v s := rfl

/-- `SP` is the one pair that a push or a pop does not take (45_stack R240, R242). -/
theorem isStackable_of_ne_sp {pair : Pair} (h : pair ≠ .sp) : pair.isStackable = true := decide_eq_true h

end Sys2Proof.Machine

namespace Sys2Proof.Claims

open Sys2Proof.Machine

/-- Settles O52: `PUSH` and `POP` allow every pair but `SP`; `XTHL` writes the word at `SP` and then `HL`, both from
values read before. -/
theorem stackInstructions : Obligations.StackInstructions := fun _ _ hpair =>
  have stackable := isStackable_of_ne_sp hpair
  ⟨runs_of_completeValid stackable rfl, runs_of_completeValid stackable rfl, runs_of_complete rfl,
    runs_of_complete rfl, runs_of_complete rfl⟩

/-- Settles O54: `OUT` writes the ports, `EI` and `DI` the pin `INTE`, `NOP` nothing; each ends at the address after
it. -/
theorem outputAndControl : Obligations.OutputAndControl := fun _ _ =>
  ⟨runs_of_complete rfl, runs_of_complete rfl, runs_of_complete rfl, runs_of_complete rfl⟩

end Sys2Proof.Claims
end

section
/-!
PROOFS. The family of 60_exceptions: the atomicity of a faulting step (O11).
-/

namespace Sys2Proof.Machine

/-- Everything an instruction that answers a next state can do to the engine: leave it as it is, or make it Faulted and
change nothing else (60_exceptions R264). -/
theorem exec_engine_cases {i : Instr} {s t : State} (h : exec i s = .next t) :
    t.engine = s.engine ∨ ∃ record, t = s.setEngine (.faulted record) := by
  by_cases allowed : i.legal = true ∧ i.wellFormed = true
  · obtain ⟨legal, wellFormed⟩ := allowed
    obtain ⟨done, target, hexec, engine, -, -⟩ := exec_retires legal wellFormed s
    cases h.symm.trans hexec
    exact .inl engine
  · have faulty : i.legal = false ∨ i.wellFormed = false := by
      simpa only [not_and_or, Bool.not_eq_true] using allowed
    cases h.symm.trans (exec_faults faulty s)
    exact .inr ⟨_, rfl⟩

/-- A step that answers a next state executes the fetched instruction in state Ready. -/
theorem ready_and_exec_of_step {s t : State} (h : step s = .next t) : s.Ready ∧ exec s.fetch s = .next t := by
  unfold step at h
  split at h
  next ready => exact ⟨ready, h⟩
  next => cases h

theorem faultPending_of_ready {s : State} (h : s.Ready) : s.faultPending = false :=
  decide_eq_false (not_not_intro h)

end Sys2Proof.Machine

namespace Sys2Proof.Claims

open Sys2Proof.Machine

/-- Settles O11: a step is taken in state Ready, so an instruction that leaves the engine as it is leaves
`fault_pending` 0, and the only other end changes the engine alone. -/
theorem faultAtomicity : Obligations.FaultAtomicity := by
  intro s t hstep pending
  obtain ⟨ready, hexec⟩ := ready_and_exec_of_step hstep
  rcases exec_engine_cases hexec with kept | ⟨record, rfl⟩
  · have notPending := faultPending_of_ready (kept.trans ready)
    cases notPending.symm.trans pending
  · rfl

end Sys2Proof.Claims
end

section
/-!
PROOFS. The decoder and the encoder (O1, O2, O4, O5, O6), the disassembler (O60) and the fetch of a step (O7).
-/

namespace Sys2Proof.Laws.Encoding

/-- The opcode byte of every instruction announces its operand bytes: the family as one lemma. -/
theorem statement_holds : (i : Instr) → Statement i
  | .nop => nop | .lxi pair d16 => lxi pair d16 | .stax pair => stax pair | .ldax pair => ldax pair
  | .shld a16 => shld a16 | .lhld a16 => lhld a16 | .sta a16 => sta a16 | .lda a16 => lda a16 | .inx pair => inx pair
  | .dcx pair => dcx pair | .dad pair => dad pair | .inrR r => inrR r | .inrM => inrM | .dcrR r => dcrR r
  | .dcrM => dcrM | .mviR r d8 => mviR r d8 | .mviM d8 => mviM d8 | .rlc => rlc | .rrc => rrc | .ral => ral
  | .rar => rar | .daa => daa | .cma => cma | .stc => stc | .cmc => cmc | .movRR dst src => movRR dst src
  | .movRM dst => movRM dst | .movMR src => movMR src | .hlt => hlt | .addR r => addR r | .addM => addM
  | .adcR r => adcR r | .adcM => adcM | .subR r => subR r | .subM => subM | .sbbR r => sbbR r | .sbbM => sbbM
  | .anaR r => anaR r | .anaM => anaM | .xraR r => xraR r | .xraM => xraM | .oraR r => oraR r | .oraM => oraM
  | .cmpR r => cmpR r | .cmpM => cmpM | .adi d8 => adi d8 | .aci d8 => aci d8 | .sui d8 => sui d8 | .sbi d8 => sbi d8
  | .ani d8 => ani d8 | .xri d8 => xri d8 | .ori d8 => ori d8 | .cpi d8 => cpi d8 | .rnz => rnz | .jnz a16 => jnz a16
  | .cnz a16 => cnz a16 | .rz => rz | .jz a16 => jz a16 | .cz a16 => cz a16 | .rnc => rnc | .jnc a16 => jnc a16
  | .cnc a16 => cnc a16 | .rc => rc | .jc a16 => jc a16 | .cc a16 => cc a16 | .rpo => rpo | .jpo a16 => jpo a16
  | .cpo a16 => cpo a16 | .rpe => rpe | .jpe a16 => jpe a16 | .cpe a16 => cpe a16 | .rp => rp | .jp a16 => jp a16
  | .cp a16 => cp a16 | .rm => rm | .jm a16 => jm a16 | .cm a16 => cm a16 | .pop pair => pop pair | .popPsw => popPsw
  | .push pair => push pair | .pushPsw => pushPsw | .ret => ret | .pchl => pchl | .sphl => sphl | .jmp a16 => jmp a16
  | .call a16 => call a16 | .outPort p8 => outPort p8 | .inPort p8 => inPort p8 | .xthl => xthl | .xchg => xchg
  | .di => di | .ei => ei | .rst n => rst n | .illegal08 => illegal08 | .illegal10 => illegal10
  | .illegal18 => illegal18 | .illegal20 => illegal20 | .illegal28 => illegal28 | .illegal30 => illegal30
  | .illegal38 => illegal38 | .illegalCB => illegalCB | .illegalD9 => illegalD9 | .illegalDD => illegalDD
  | .illegalED => illegalED | .illegalFD => illegalFD

end Sys2Proof.Laws.Encoding

namespace Sys2Proof

open Sys2Proof.Machine Sys2Proof.Claims

/-- The instruction with the bytes `b2` and `b3` as its immediate operand, if it has one (30_encoding R104). -/
def Instr.withOperands (b2 b3 : Byte) : Instr → Instr
  | .lxi pair _ => .lxi pair (joinBytes b3 b2)
  | .shld _ => .shld (joinBytes b3 b2)
  | .lhld _ => .lhld (joinBytes b3 b2)
  | .sta _ => .sta (joinBytes b3 b2)
  | .lda _ => .lda (joinBytes b3 b2)
  | .jnz _ => .jnz (joinBytes b3 b2)
  | .cnz _ => .cnz (joinBytes b3 b2)
  | .jz _ => .jz (joinBytes b3 b2)
  | .cz _ => .cz (joinBytes b3 b2)
  | .jnc _ => .jnc (joinBytes b3 b2)
  | .cnc _ => .cnc (joinBytes b3 b2)
  | .jc _ => .jc (joinBytes b3 b2)
  | .cc _ => .cc (joinBytes b3 b2)
  | .jpo _ => .jpo (joinBytes b3 b2)
  | .cpo _ => .cpo (joinBytes b3 b2)
  | .jpe _ => .jpe (joinBytes b3 b2)
  | .cpe _ => .cpe (joinBytes b3 b2)
  | .jp _ => .jp (joinBytes b3 b2)
  | .cp _ => .cp (joinBytes b3 b2)
  | .jm _ => .jm (joinBytes b3 b2)
  | .cm _ => .cm (joinBytes b3 b2)
  | .jmp _ => .jmp (joinBytes b3 b2)
  | .call _ => .call (joinBytes b3 b2)
  | .mviR r _ => .mviR r b2
  | .mviM _ => .mviM b2
  | .adi _ => .adi b2
  | .aci _ => .aci b2
  | .sui _ => .sui b2
  | .sbi _ => .sbi b2
  | .ani _ => .ani b2
  | .xri _ => .xri b2
  | .ori _ => .ori b2
  | .cpi _ => .cpi b2
  | .outPort _ => .outPort b2
  | .inPort _ => .inPort b2
  | i => i

/-- The decoder of an instruction's opcode byte puts the bytes that follow into it (30_encoding R109). -/
theorem decode_opcode {i : Instr} (h : i.wellFormed = true) (b2 b3 : Byte) :
    decode i.opcode b2 b3 = i.withOperands b2 b3 := by
  cases i with
  | stax pair | ldax pair | pop pair | push pair => cases pair <;> first | rfl | cases h
  | inx pair | dcx pair | dad pair => cases pair <;> rfl
  | lxi pair => cases pair <;> (simp only [Instr.opcode]; rfl)
  | movRR dst src => cases dst <;> cases src <;> first | rfl | cases h
  | mviR r => cases r with
    | m => cases h
    | b | c | d | e | h | l | a => simp only [Instr.opcode]; rfl
  | inrR r | dcrR r | movRM r | movMR r | addR r | adcR r | subR r | sbbR r | anaR r | xraR r | oraR r | cmpR r =>
    cases r <;> first | rfl | cases h
  | rst n => cases n with | ofFin n => fin_cases n <;> rfl
  | _ => simp only [Instr.opcode]; rfl

/-- The immediate operand is what the operand bytes say. -/
theorem withOperands_operandBytes (i : Instr) :
    i.withOperands (i.operandBytes.getD 0 0) (i.operandBytes.getD 1 0) = i := by
  cases i <;> simp [Instr.withOperands, Instr.operandBytes]

theorem operandBytes_withOperands (i : Instr) (b2 b3 : Byte) :
    (i.withOperands b2 b3).operandBytes = [b2, b3].take i.operandBytes.length := by
  cases i <;> simp [Instr.withOperands, Instr.operandBytes]

@[simp] theorem wellFormed_withOperands (i : Instr) (b2 b3 : Byte) :
    (i.withOperands b2 b3).wellFormed = i.wellFormed := by
  cases i <;> rfl

@[simp] theorem opcode_withOperands (i : Instr) (b2 b3 : Byte) : (i.withOperands b2 b3).opcode = i.opcode := by
  cases i <;> rfl

@[simp] theorem legal_withOperands (i : Instr) (b2 b3 : Byte) : (i.withOperands b2 b3).legal = i.legal := by
  cases i <;> rfl

theorem costByInstruction_withOperands (i : Instr) (b2 b3 : Byte) :
    costByInstruction (i.withOperands b2 b3) = costByInstruction i := by
  cases i <;> rfl

/-! ## The opcode map, row by row (30_encoding section 4): facts of the opcode byte alone -/

theorem decode_zero_wellFormed_and_opcode (op : Byte) :
    (decode op 0 0).wellFormed = true ∧ (decode op 0 0).opcode = op := by
  decide +revert

theorem decode_zero_legal_iff (op : Byte) : (decode op 0 0).legal = false ↔ op ∈ illegalBytes := by
  decide +revert

theorem cycles_eq_costByInstruction_decode (op : Byte) : config.cycles op = costByInstruction (decode op 0 0) := by
  decide +revert

/-- The lists of 30_encoding R98. -/
theorem extraBytes_iff (op : Byte) :
    (extraBytes op = 2 ↔ op ∈ threeByteOpcodes) ∧ (extraBytes op = 1 ↔ op ∈ twoByteOpcodes) := by
  decide +revert

/-! ## The decoder, whatever bytes follow the opcode -/

theorem decode_eq_withOperands (op b2 b3 : Byte) : decode op b2 b3 = (decode op 0 0).withOperands b2 b3 := by
  obtain ⟨wellFormed, opcode⟩ := decode_zero_wellFormed_and_opcode op
  rw [← decode_opcode wellFormed, opcode]

theorem decode_wellFormed (op b2 b3 : Byte) : (decode op b2 b3).wellFormed = true := by
  rw [decode_eq_withOperands, wellFormed_withOperands]
  exact (decode_zero_wellFormed_and_opcode op).1

@[simp] theorem opcode_decode (op b2 b3 : Byte) : (decode op b2 b3).opcode = op := by
  rw [decode_eq_withOperands, opcode_withOperands]
  exact (decode_zero_wellFormed_and_opcode op).2

/-- The decoded instruction is one of the twelve exactly when its byte is (30_encoding R110). -/
theorem decode_legal_iff (op b2 b3 : Byte) : (decode op b2 b3).legal = false ↔ op ∈ illegalBytes := by
  rw [decode_eq_withOperands, legal_withOperands]
  exact decode_zero_legal_iff op

theorem operandBytes_decode (op b2 b3 : Byte) :
    (decode op b2 b3).operandBytes = [b2, b3].take (extraBytes op) := by
  obtain ⟨wellFormed, opcode⟩ := decode_zero_wellFormed_and_opcode op
  obtain ⟨announced, -⟩ := Laws.Encoding.statement_holds _ wellFormed
  rw [decode_eq_withOperands, operandBytes_withOperands, ← announced, opcode]

theorem length_operandBytes_decode (op b2 b3 : Byte) : (decode op b2 b3).operandBytes.length = extraBytes op := by
  obtain ⟨announced, -⟩ := Laws.Encoding.statement_holds _ (decode_wellFormed op b2 b3)
  rw [← announced, opcode_decode]

/-! ## The list decoder -/

/-- The list decoder hands the decoder as many bytes as the opcode announces, and zeros for the others. -/
theorem decodeBytes_of_extraBytes {op : Byte} {operands : List Byte} (h : extraBytes op = operands.length)
    (atMostTwo : operands.length ≤ 2) (rest : List Byte) :
    decodeBytes (op :: operands ++ rest) = .ok (decode op (operands.getD 0 0) (operands.getD 1 0), rest) := by
  match operands, atMostTwo with
  | [], _ => exact decodeBytes_of_noExtraBytes h rest
  | [b2], _ => exact decodeBytes_of_oneExtraByte h b2 rest
  | [b2, b3], _ => exact decodeBytes_of_twoExtraBytes h b2 b3 rest

theorem decodeBytes_encode {i : Instr} (h : i.wellFormed = true) (rest : List Byte) :
    decodeBytes (encode i ++ rest) = .ok (i, rest) := by
  obtain ⟨announced, atMostTwo⟩ := Laws.Encoding.statement_holds i h
  rw [encode, decodeBytes_of_extraBytes announced atMostTwo, decode_opcode h, withOperands_operandBytes]

theorem encode_decode (op b2 b3 : Byte) :
    encode (decode op b2 b3) = [op, b2, b3].take (1 + extraBytes op) := by
  rw [encode, opcode_decode, operandBytes_decode, Nat.add_comm, List.take_succ_cons]

/-- A fetch of three bytes decodes what the bytes at its front encode: the bytes it reads too many change nothing. -/
theorem decodeBytes_three (op b2 b3 : Byte) :
    decodeBytes [op, b2, b3] = .ok (decode op b2 b3, [op, b2, b3].drop (1 + extraBytes op)) := by
  have h := decodeBytes_encode (decode_wellFormed op b2 b3) ([op, b2, b3].drop (1 + extraBytes op))
  rwa [encode_decode, List.take_append_drop] at h

/-! ## The placeholder text of an illegal byte (30_encoding R113) -/

/-- A mnemonic with an operand is another text: the placeholder does not begin with the mnemonic and a blank. -/
theorem text1_ne_placeholder {mnemonic : String} (h : ¬ (mnemonic ++ " ").toList <+: "NOT IMPLEMENTED".toList)
    (operand : String) : text1 mnemonic operand ≠ "NOT IMPLEMENTED" := by
  have front : (text1 mnemonic operand).toList = (mnemonic ++ " ").toList ++ operand.toList := String.toList_append
  intro same
  rw [← same, front] at h
  exact h (List.prefix_append _ _)

theorem text2_ne_placeholder {mnemonic : String} (h : ¬ (mnemonic ++ " ").toList <+: "NOT IMPLEMENTED".toList)
    (first second : String) : text2 mnemonic first second ≠ "NOT IMPLEMENTED" := by
  have asText1 : text2 mnemonic first second = text1 mnemonic (first ++ "," ++ second) := by
    simp only [text2, text1, String.append_assoc]
  exact asText1 ▸ text1_ne_placeholder h _

theorem instrText_eq_placeholder_iff (i : Instr) : instrText i = "NOT IMPLEMENTED" ↔ i.legal = false := by
  cases i with
  | illegal08 | illegal10 | illegal18 | illegal20 | illegal28 | illegal30 | illegal38 | illegalCB | illegalD9
  | illegalDD | illegalED | illegalFD => exact iff_of_true rfl rfl
  | lxi | mviR | mviM | movRR | movRM | movMR =>
    exact iff_of_false (text2_ne_placeholder (by decide) _ _) Bool.noConfusion
  | nop | rlc | rrc | ral | rar | daa | cma | stc | cmc | hlt | rnz | rz | rnc | rc | rpo | rpe | rp | rm | ret | pchl
  | sphl | xthl | xchg | di | ei => exact iff_of_false (by decide) Bool.noConfusion
  | _ => exact iff_of_false (text1_ne_placeholder (by decide) _) Bool.noConfusion

end Sys2Proof

namespace Sys2Proof.Claims

open Sys2Proof.Machine

/-- Settles O1: the opcode byte announces the operand bytes, and the decoder puts them back into the instruction. -/
theorem decodeOfEncode : Obligations.DecodeOfEncode := fun _ rest h => decodeBytes_encode h rest

/-- Settles O2: the decoder reads an opcode byte as the row of the map with the operand bytes put in. -/
theorem encodeOfDecode : Obligations.EncodeOfDecode := fun op b2 b3 =>
  ⟨decode_wellFormed op b2 b3, encode_decode op b2 b3⟩

/-- Settles O4, by the rows of the opcode map. -/
theorem illegalOpcodes : Obligations.IllegalOpcodes := decode_legal_iff

/-- Settles O5: the length is 1 and what the opcode byte announces. -/
theorem instructionLengths : Obligations.InstructionLengths := by
  intro i h
  obtain ⟨announced, atMostTwo⟩ := Laws.Encoding.statement_holds i h
  obtain ⟨three, two⟩ := extraBytes_iff i.opcode
  rw [← three, ← two, announced, encode, List.length_cons, Instr.length]
  omega

/-- Settles O6: the table by opcode byte is the cost of the row it decodes to, which no operand changes. -/
theorem cycleCosts : Obligations.CycleCosts := by
  intro i h
  rw [cycles_eq_costByInstruction_decode, decode_opcode h, costByInstruction_withOperands]

/-- Settles O60: the disassembler decodes the bytes at the position. -/
theorem disassemblyAgreesWithDecoder : Obligations.DisassemblyAgreesWithDecoder := fun _ _ =>
  ⟨length_operandBytes_decode _ _ _, congrArg config.cycles (opcode_decode _ _ _),
    (decode_legal_iff _ _ _).symm.trans (instrText_eq_placeholder_iff _).symm⟩

/-- Settles O7: the three bytes decode to the fetched instruction, whatever is left over. -/
theorem stepRunsDecoded : Obligations.StepRunsDecoded := by
  intro s i rest ready _ decoded
  rw [decodeBytes_three] at decoded
  injection decoded with decoded
  have fetched : s.fetch = i := congrArg Prod.fst decoded
  rw [step, ready, fetched]

end Sys2Proof.Claims
end

section
/-!
PROOFS. What no step reads: the counters (O14) and the pins (O15); what the control instructions alone write (O59).
-/

namespace Sys2Proof.Machine

open Sys2Proof.Claims

/-! ## Shifted counters -/

/-- `exec_mapUnread` where the pins and the ports are kept: `IN`, `OUT`, `EI` and `DI` read no counter either. -/
theorem exec_shiftCounters (i : Instr) (s : State) (c n : Nat) :
    exec i (s.mapUnread id id c n) = mapNext (State.mapUnread id id c n) (exec i s) := by
  cases i with
  | inPort | outPort | ei | di => exact exec_mapUnread_of_complete rfl rfl rfl
  | _ => exact exec_mapUnread (by simp) (by simp) (by simp) (by simp) s

/-! ## Replaced pins -/

/-- `exec_mapUnread` where the pins alone are replaced: `IN` and `OUT` read no pin either, and what `EI` and `DI` do to
the pins they do to the ones given. -/
theorem exec_setPins (i : Instr) (s : State) (p : Pins) :
    exec i (s.setPins p) = mapNext (State.setPins · (pinsAfter i p)) (exec i s) := by
  cases i with
  | ei | di | inPort | outPort => rfl
  | _ => exact exec_mapUnread (f := fun _ => p) (g := id) (c := 0) (n := 0) (by simp) (by simp) (by simp) (by simp) s

/-! ## From an instruction to the step -/

theorem step_of_ready {s : State} (h : s.Ready) : step s = exec s.fetch s := by rw [step, h]

theorem step_of_faulted {s : State} {record : FaultRecord} (h : s.engine = .faulted record) :
    step s = .fault (.executionFault record) := by
  rw [step, h]

/-- A change of fields that neither the fetch nor the engine reads commutes with the step when it commutes with the
fetched instruction. -/
theorem step_eq_mapNext {s s' : State} {f : State → State} (engine : s'.engine = s.engine) (fetch : s'.fetch = s.fetch)
    (h : exec s.fetch s' = mapNext f (exec s.fetch s)) : step s' = mapNext f (step s) := by
  cases hs : s.engine with
  | ready => rw [step_of_ready (engine.trans hs), step_of_ready hs, fetch, h]
  | faulted record => rw [step_of_faulted (engine.trans hs), step_of_faulted hs]; rfl

/-! ## What is not read is not written: a field replaced by itself -/

theorem exec_pins {i : Instr} {s t : State} (h : exec i s = .next t) : t.pins = pinsAfter i s.pins := by
  have replaced : exec i s = mapNext (State.setPins · (pinsAfter i s.pins)) (exec i s) := exec_setPins i s s.pins
  rw [h] at replaced
  injection replaced with replaced
  exact congrArg State.pins replaced

theorem exec_ports {i : Instr} {s t : State} (h : exec i s = .next t) (hout : ∀ p, i ≠ .outPort p) :
    t.ports = s.ports := by
  by_cases hin : ∃ p, i = .inPort p
  · obtain ⟨p, rfl⟩ := hin
    cases h
    rfl
  · have replaced : exec i s = mapNext (State.setPorts · s.ports) (exec i s) :=
      portsOnlyByInOut i s s.ports (fun p hi => hin ⟨p, hi⟩) hout
    rw [h] at replaced
    injection replaced with replaced
    exact (congrArg State.ports replaced).trans rfl

/-- A legal instruction with allowed selectors answers a next state with the engine as it was. -/
theorem exec_engine {i : Instr} {s t : State} (legal : i.legal = true) (wellFormed : i.wellFormed = true)
    (h : exec i s = .next t) : t.engine = s.engine := by
  obtain ⟨done, target, retired, engine, -, -⟩ := exec_retires legal wellFormed s
  cases h.symm.trans retired
  exact engine

end Sys2Proof.Machine

namespace Sys2Proof.Claims

open Sys2Proof.Machine

/-- Settles O14: neither the engine nor the fetch reads a counter, and every instruction adds to what it finds. -/
theorem countersAreNotRead : Obligations.CountersAreNotRead := fun s c n =>
  step_eq_mapNext rfl rfl (exec_shiftCounters s.fetch s c n)

/-- Settles O15: neither the engine nor the fetch reads a pin, and every instruction but `EI` and `DI` keeps the pins it
is given. -/
theorem pinsAreNotRead : Obligations.PinsAreNotRead := fun s p =>
  step_eq_mapNext rfl rfl (exec_setPins s.fetch s p)

/-- Settles O59: pins and ports by non-interference, the engine because a legal instruction retires. -/
theorem controlFrame : Obligations.ControlFrame := fun _ _ _ wellFormed h =>
  ⟨exec_pins h, exec_ports h, fun legal => exec_engine legal wellFormed h⟩

end Sys2Proof.Claims
end

section
/-!
PROOFS. The word accesses of memory (O25) and the port accesses (O26).
-/

namespace Sys2Proof.Machine

/-- Reading after a word write: its low byte at the address, its high byte above it (20_memory R65). The high byte is
written last, and the two addresses differ. -/
theorem State.memWrite2_memRead1 {s : State} (h : s.Inv) (addr a v : Word) :
    (s.memWrite2 addr v).memRead1 a =
      if a = addr then lowByte v else if a = addr + 1 then highByte v else s.memRead1 a := by
  have distinct : addr ≠ addr + 1 := by bv_omega
  rw [State.memWrite2, State.memWrite1_memRead1 (State.memWrite1_inv addr _ h), State.memWrite1_memRead1 h]
  by_cases low : a = addr
  · rw [if_pos low, if_pos low, if_neg (low ▸ distinct)]
  · rw [if_neg low, if_neg low]

/-- The word round trip (20_memory section 2), also where the word wraps. -/
theorem State.memRead2_memWrite2 {s : State} (h : s.Inv) (addr v : Word) : (s.memWrite2 addr v).memRead2 addr = v := by
  have distinct : addr + 1 ≠ addr := by bv_omega
  rw [State.memRead2, State.memWrite2_memRead1 h, State.memWrite2_memRead1 h, if_neg distinct, if_pos rfl, if_pos rfl,
    joinBytes_high_low]

theorem State.memRead2_toNat (s : State) (addr : Word) :
    (s.memRead2 addr).toNat = 256 * (s.memRead1 (addr + 1)).toNat + (s.memRead1 addr).toNat := by
  rw [State.memRead2, joinBytes_toNat, Nat.mul_comm]

/-- Reading after a port write. -/
theorem State.portWrite_portRead {s : State} (h : s.Inv) (p q v : Byte) :
    (s.portWrite p v).portRead q = if q = p then v else s.portRead q := by
  simp only [State.portRead, State.portWrite_ports, Memory.read_write v q.toNat h.2, BitVec.toNat_inj]

theorem condHolds_p_iff (f : Flags) : condHolds .p f = true ↔ f.s = false := iff_of_eq (Bool.not_eq_true' f.s)

end Sys2Proof.Machine

namespace Sys2Proof.Claims

open Sys2Proof.Machine

/-- Settles O25: a word is the two bytes at distinct addresses, joined. -/
theorem wordAccess : Obligations.WordAccess := fun s addr a v h =>
  ⟨s.memRead2_toNat addr, State.memWrite2_memRead1 h addr a v, State.memRead2_memWrite2 h addr v, rfl⟩

/-- Settles O26, by reading after a write of the canonical ports. -/
theorem portAccess : Obligations.PortAccess := fun _ p q v h => ⟨State.portWrite_portRead h p q v, rfl⟩

end Sys2Proof.Claims
end

section
/-!
PROOFS. What a step keeps: the canonical form (O17), memory (O56), registers (O57), flags (O58); the state after reset
(O18, O19).
-/

namespace Sys2Proof.Machine

open Sys2Proof.Claims

/-! ## What holds in whatever state an instruction leads to -/

/-- `P` holds at `s`, and neither the commit nor a fault changes whether it holds: `P` speaks of the registers, `SP`, the
flags, the pins, memory and the ports alone. -/
structure Persists (P : State → Prop) (s : State) : Prop where
  start : P s
  retire {d : State} (i : Instr) (target : Word) : P d → P (d.retire i target)
  setEngine {d : State} (e : Engine) : P d → P (d.setEngine e)

namespace Persists

variable {P : State → Prop} {i : Instr} {s done t : State} {cond : Cond} {target : Word}

/-! It is enough that `P` holds after the effect of the instruction, for each way a step can end. -/

theorem of_completeAt (hP : Persists P s) (h : exec i s = .next t) (hexec : exec i s = completeAt i target done)
    (hdone : P done) : P t := by
  cases h.symm.trans hexec
  exact hP.retire i target hdone

theorem of_complete (hP : Persists P s) (h : exec i s = .next t) (hexec : exec i s = complete i done)
    (hdone : P done) : P t :=
  hP.of_completeAt h hexec hdone

theorem of_completeValid (hP : Persists P s) (h : exec i s = .next t) (hexec : exec i s = completeValid i s done)
    (hdone : i.wellFormed = true → P done) : P t := by
  rcases completeValid_cases (hexec.symm.trans h) with ⟨wellFormed, rfl⟩ | ⟨-, rfl⟩
  · exact hP.retire i _ (hdone wellFormed)
  · exact hP.setEngine _ hP.start

theorem of_raiseFault {cause : Cause} (hP : Persists P s) (h : exec i s = .next t)
    (hexec : exec i s = raiseFault i cause s) : P t := by
  cases h.symm.trans hexec
  exact hP.setEngine _ hP.start

theorem of_jumpIf (hP : Persists P s) (h : exec i s = .next t) (hexec : exec i s = jumpIf i cond target s) : P t := by
  rcases jumpIf_cases (hexec.symm.trans h) with ⟨-, rfl⟩ | ⟨-, rfl⟩ <;> exact hP.retire i _ hP.start

theorem of_callIf (hP : Persists P s) (h : exec i s = .next t) (hexec : exec i s = callIf i cond target s)
    (hpush : condHolds cond s.flags = true → P (s.push16 (s.npc i))) : P t := by
  rcases callIf_cases (hexec.symm.trans h) with ⟨taken, rfl⟩ | ⟨-, rfl⟩
  · exact hP.retire i _ (hpush taken)
  · exact hP.retire i _ hP.start

theorem of_returnIf (hP : Persists P s) (h : exec i s = .next t) (hexec : exec i s = returnIf i cond s)
    (hdrop : P s.dropTop) : P t := by
  rcases returnIf_cases (hexec.symm.trans h) with ⟨-, rfl⟩ | ⟨-, rfl⟩
  · exact hP.retire i _ hdrop
  · exact hP.retire i _ hP.start

end Persists

/-! ## Allowed selectors -/

theorem ne_m_of_isRegister {r : Reg8} (h : r.isRegister = true) : r ≠ .m := of_decide_eq_true h

theorem movRR_dst_ne_m {dst src : Reg8} (h : (Instr.movRR dst src).wellFormed = true) : dst ≠ .m :=
  ne_m_of_isRegister (Bool.and_eq_true_iff.mp h).1

/-! ## The canonical form -/

theorem State.Inv.persists {s : State} (h : s.Inv) : Persists State.Inv s := ⟨h, fun _ _ h => h, fun _ h => h⟩

theorem pairWrite_inv {s : State} (pair : Pair) (v : Word) (h : s.Inv) : (pairWrite pair v s).Inv :=
  State.inv_of_eq (pairWrite_mem pair v s) (pairWrite_ports pair v s) h

theorem State.push16_inv {s : State} (v : Word) (h : s.Inv) : (s.push16 v).Inv := State.memWrite2_inv s.pushAddress v h

theorem State.commitKeepCy_inv {s : State} (r : Reg8) (v : AluResult 8) (h : s.Inv) : (s.commitKeepCy r v).Inv :=
  reg8Write_inv r v.value h

/-- Only the writes to memory and to the ports matter; each keeps the form. -/
theorem exec_inv {i : Instr} {s t : State} (inv : s.Inv) (h : exec i s = .next t) : t.Inv := by
  have hP := inv.persists
  cases i with
  | illegal08 | illegal10 | illegal18 | illegal20 | illegal28 | illegal30 | illegal38 | illegalCB | illegalD9
  | illegalDD | illegalED | illegalFD => exact hP.of_raiseFault h rfl
  | jnz | jz | jnc | jc | jpo | jpe | jp | jm => exact hP.of_jumpIf h rfl
  | cnz | cz | cnc | cc | cpo | cpe | cp | cm => exact hP.of_callIf h rfl fun _ => State.push16_inv _ inv
  | rnz | rz | rnc | rc | rpo | rpe | rp | rm => exact hP.of_returnIf h rfl inv
  | hlt | jmp | pchl | ret => exact hP.of_completeAt h rfl inv
  | call | rst => exact hP.of_completeAt h rfl (State.push16_inv _ inv)
  | movRR | movRM | mviR | movMR => exact hP.of_completeValid h rfl fun _ => reg8Write_inv _ _ inv
  | inrR | dcrR => exact hP.of_completeValid h rfl fun _ => State.commitKeepCy_inv _ _ inv
  | pop => exact hP.of_completeValid h rfl fun _ => pairWrite_inv _ _ inv
  | stax => exact hP.of_completeValid h rfl fun _ => State.memWrite1_inv _ _ inv
  | push => exact hP.of_completeValid h rfl fun _ => State.push16_inv _ inv
  | ldax | addR | adcR | subR | sbbR | anaR | xraR | oraR | cmpR => exact hP.of_completeValid h rfl fun _ => inv
  | lxi | inx | dcx | lhld => exact hP.of_complete h rfl (pairWrite_inv _ _ inv)
  | xthl => exact hP.of_complete h rfl (State.memWrite2_inv _ _ inv)
  | shld => exact hP.of_complete h rfl (State.memWrite2_inv _ _ inv)
  | sta => exact hP.of_complete h rfl (State.memWrite1_inv _ _ inv)
  | mviM | inrM | dcrM => exact hP.of_complete h rfl (reg8Write_inv .m _ inv)
  | pushPsw => exact hP.of_complete h rfl (State.push16_inv _ inv)
  | outPort => exact hP.of_complete h rfl (State.portWrite_inv _ _ inv)
  | _ => exact hP.of_complete h rfl inv

/-! ## Memory -/

theorem persists_memRead1 (a : Word) (s : State) : Persists (fun u => u.memRead1 a = s.memRead1 a) s :=
  ⟨rfl, fun _ _ h => h, fun _ h => h⟩

section
variable {s : State} (inv : s.Inv) {addr a : Word}
include inv

/-- A byte that is not stored to reads as before. -/
theorem State.memWrite1_memRead1_of_notMem (ha : a ∉ [addr]) (v : Byte) :
    (s.memWrite1 addr v).memRead1 a = s.memRead1 a := by
  rw [State.memWrite1_memRead1 inv, if_neg (List.ne_of_not_mem_cons ha)]

theorem State.memWrite2_memRead1_of_notMem (ha : a ∉ wordAddresses addr) (v : Word) :
    (s.memWrite2 addr v).memRead1 a = s.memRead1 a := by
  obtain ⟨low, high⟩ := List.ne_and_not_mem_of_not_mem_cons ha
  rw [State.memWrite2_memRead1 inv, if_neg low, if_neg (List.ne_of_not_mem_cons high)]

theorem State.push16_memRead1_of_notMem (ha : a ∉ wordAddresses s.pushAddress) (v : Word) :
    (s.push16 v).memRead1 a = s.memRead1 a :=
  State.memWrite2_memRead1_of_notMem inv ha v

/-- A conditional call stores to the stack when it is taken; `p` is its condition code in terms of the flag. -/
theorem exec_memRead1_of_callIf {i : Instr} {t : State} {cond : Cond} {a16 : Word} {p : Prop} [Decidable p]
    (h : exec i s = .next t) (hexec : exec i s = callIf i cond a16 s) (holds : condHolds cond s.flags = true ↔ p)
    (ha : a ∉ if p then wordAddresses s.pushAddress else []) : t.memRead1 a = s.memRead1 a := by
  refine (persists_memRead1 a s).of_callIf h hexec fun taken => ?_
  rw [if_pos (holds.mp taken)] at ha
  exact State.push16_memRead1_of_notMem inv ha _

theorem exec_memRead1 {i : Instr} {t : State} (h : exec i s = .next t) (ha : a ∉ storedAddresses i s) :
    t.memRead1 a = s.memRead1 a := by
  have hP := persists_memRead1 a s
  cases i with
  | illegal08 | illegal10 | illegal18 | illegal20 | illegal28 | illegal30 | illegal38 | illegalCB | illegalD9
  | illegalDD | illegalED | illegalFD => exact hP.of_raiseFault h rfl
  | jnz | jz | jnc | jc | jpo | jpe | jp | jm => exact hP.of_jumpIf h rfl
  | cnz => exact exec_memRead1_of_callIf inv h rfl (condHolds_nz_iff s.flags) ha
  | cnc => exact exec_memRead1_of_callIf inv h rfl (condHolds_nc_iff s.flags) ha
  | cpo => exact exec_memRead1_of_callIf inv h rfl (condHolds_po_iff s.flags) ha
  | cp => exact exec_memRead1_of_callIf inv h rfl (condHolds_p_iff s.flags) ha
  | cz | cc | cpe | cm => exact exec_memRead1_of_callIf inv h rfl Iff.rfl ha
  | rnz | rz | rnc | rc | rpo | rpe | rp | rm => exact hP.of_returnIf h rfl rfl
  | hlt | jmp | pchl | ret => exact hP.of_completeAt h rfl rfl
  | call | rst => exact hP.of_completeAt h rfl (State.push16_memRead1_of_notMem inv ha _)
  | movRR =>
    exact hP.of_completeValid h rfl fun allowed => reg8Write_memRead1 (movRR_dst_ne_m allowed) _ s a
  | movRM | mviR | inrR | dcrR =>
    exact hP.of_completeValid h rfl fun allowed => reg8Write_memRead1 (ne_m_of_isRegister allowed) _ s a
  | pop => exact hP.of_completeValid h rfl fun _ => pairWrite_memRead1 _ _ s a
  | movMR | stax => exact hP.of_completeValid h rfl fun _ => State.memWrite1_memRead1_of_notMem inv ha _
  | push => exact hP.of_completeValid h rfl fun _ => State.push16_memRead1_of_notMem inv ha _
  | ldax | addR | adcR | subR | sbbR | anaR | xraR | oraR | cmpR => exact hP.of_completeValid h rfl fun _ => rfl
  | lxi | inx | dcx => exact hP.of_complete h rfl (pairWrite_memRead1 _ _ s a)
  | shld | xthl => exact hP.of_complete h rfl (State.memWrite2_memRead1_of_notMem inv ha _)
  | sta | mviM | inrM | dcrM => exact hP.of_complete h rfl (State.memWrite1_memRead1_of_notMem inv ha _)
  | pushPsw => exact hP.of_complete h rfl (State.push16_memRead1_of_notMem inv ha _)
  | _ => exact hP.of_complete h rfl rfl

end

/-! ## Reset -/

theorem Pins.low_get (pin : Pin) : Pins.low.get pin = false := by
  cases pin with
  | address | data => exact BitVec.getLsbD_zero
  | inte | dbin | wr | sync | wait | hlda | reset | hold | int | phi1 | phi2 | ready => rfl

/-! ## Registers -/

theorem persists_reg8Read (q : Reg8) (s : State) :
    Persists (fun u => reg8Read q u = reg8Read q s) s :=
  ⟨rfl, fun i target h => (State.retire_reg8Read _ i target q).trans h,
    fun e h => (State.setEngine_reg8Read _ e q).trans h⟩

/-- A pair write leaves every register alone that is no half of the pair. -/
theorem reg8Read_pairWrite {pair : Pair} {q : Reg8} (hm : q ≠ .m) (hq : q ∉ halves pair) (v : Word) (s : State) :
    reg8Read q (pairWrite pair v s) = reg8Read q s := by
  cases pair <;> cases q <;> first | rfl | exact absurd rfl hm | exact absurd (by decide) hq

theorem exec_reg8Read {i : Instr} {s t : State} {q : Reg8} (h : exec i s = .next t) (hm : q ≠ .m)
    (hq : q ∉ writtenRegisters i) : reg8Read q t = reg8Read q s := by
  have hP := persists_reg8Read q s
  cases i with
  | illegal08 | illegal10 | illegal18 | illegal20 | illegal28 | illegal30 | illegal38 | illegalCB | illegalD9
  | illegalDD | illegalED | illegalFD => exact hP.of_raiseFault h rfl
  | jnz | jz | jnc | jc | jpo | jpe | jp | jm => exact hP.of_jumpIf h rfl
  | cnz | cz | cnc | cc | cpo | cpe | cp | cm => exact hP.of_callIf h rfl fun _ => State.push16_reg8Read hm s _
  | rnz | rz | rnc | rc | rpo | rpe | rp | rm => exact hP.of_returnIf h rfl (s.dropTop_reg8Read q)
  | hlt | jmp | pchl => exact hP.of_completeAt h rfl rfl
  | ret => exact hP.of_completeAt h rfl (s.dropTop_reg8Read q)
  | call | rst => exact hP.of_completeAt h rfl (State.push16_reg8Read hm s _)
  | movRR | movRM | mviR =>
    exact hP.of_completeValid h rfl fun _ => reg8Read_reg8Write_other hm (List.ne_of_not_mem_cons hq) _ s
  | inrR | dcrR =>
    exact hP.of_completeValid h rfl fun _ =>
      (s.commitKeepCy_reg8Read q _ _).trans (reg8Read_reg8Write_other hm (List.ne_of_not_mem_cons hq) _ s)
  | addR | adcR | subR | sbbR | anaR | xraR | oraR =>
    exact hP.of_completeValid h rfl fun _ => State.commitA_reg8Read (List.ne_of_not_mem_cons hq) s _
  | ldax => exact hP.of_completeValid h rfl fun _ => State.setA_reg8Read (List.ne_of_not_mem_cons hq) s _
  | cmpR => exact hP.of_completeValid h rfl fun _ => s.setFlags_reg8Read _ q
  | movMR | stax => exact hP.of_completeValid h rfl fun _ => State.memWrite1_reg8Read hm s _ _
  | push => exact hP.of_completeValid h rfl fun _ => State.push16_reg8Read hm s _
  | pop =>
    exact hP.of_completeValid h rfl fun _ => (State.dropTop_reg8Read _ q).trans (reg8Read_pairWrite hm hq _ s)
  | lxi | inx | dcx => exact hP.of_complete h rfl (reg8Read_pairWrite hm hq _ s)
  | lhld => exact hP.of_complete h rfl (reg8Read_pairWrite (pair := .hl) hm hq _ s)
  | dad => exact hP.of_complete h rfl ((State.setCy_reg8Read _ _ q).trans (reg8Read_pairWrite (pair := .hl) hm hq _ s))
  | xthl =>
    exact hP.of_complete h rfl
      ((reg8Read_pairWrite (pair := .hl) hm hq _ _).trans (State.memWrite2_reg8Read hm s _ _))
  | xchg =>
    obtain ⟨hde, hhl⟩ : q ∉ halves .de ∧ q ∉ halves .hl := not_or.mp (mt List.mem_append.mpr hq)
    exact hP.of_complete h rfl ((reg8Read_pairWrite hm hde _ _).trans (reg8Read_pairWrite hm hhl _ s))
  | lda | cma | inPort => exact hP.of_complete h rfl (State.setA_reg8Read (List.ne_of_not_mem_cons hq) s _)
  | popPsw =>
    exact hP.of_complete h rfl ((State.dropTop_reg8Read _ q).trans
      ((State.setA_reg8Read (List.ne_of_not_mem_cons hq) _ _).trans (s.setFlags_reg8Read _ q)))
  | rlc | rrc | ral | rar =>
    exact hP.of_complete h rfl
      ((State.setCy_reg8Read _ _ q).trans (State.setA_reg8Read (List.ne_of_not_mem_cons hq) s _))
  | addM | adcM | subM | sbbM | anaM | xraM | oraM | adi | aci | sui | sbi | ani | xri | ori | daa =>
    exact hP.of_complete h rfl (State.commitA_reg8Read (List.ne_of_not_mem_cons hq) s _)
  | cmpM | cpi => exact hP.of_complete h rfl (s.setFlags_reg8Read _ q)
  | stc | cmc => exact hP.of_complete h rfl (s.setCy_reg8Read _ q)
  | sta | mviM => exact hP.of_complete h rfl (State.memWrite1_reg8Read hm s _ _)
  | inrM | dcrM =>
    exact hP.of_complete h rfl ((s.commitKeepCy_reg8Read q .m _).trans (State.memWrite1_reg8Read hm s _ _))
  | shld => exact hP.of_complete h rfl (State.memWrite2_reg8Read hm s _ _)
  | pushPsw => exact hP.of_complete h rfl (State.push16_reg8Read hm s _)
  | sphl => exact hP.of_complete h rfl (s.setSp_reg8Read _ q)
  | outPort => exact hP.of_complete h rfl (s.portWrite_reg8Read _ _ q)
  | ei | di => exact hP.of_complete h rfl (s.setInte_reg8Read _ q)
  | nop => exact hP.of_complete h rfl rfl

/-! ## The stack pointer -/

theorem persists_sp (s : State) : Persists (fun u => u.sp = s.sp) s := ⟨rfl, fun _ _ h => h, fun _ h => h⟩

theorem pairWrite_sp {pair : Pair} (h : pair ≠ .sp) (v : Word) (s : State) : (pairWrite pair v s).sp = s.sp := by
  cases pair with
  | bc | de | hl => rfl
  | sp => exact absurd rfl h

theorem exec_sp {i : Instr} {s t : State} (h : exec i s = .next t) (hsp : writesSp i = false) : t.sp = s.sp := by
  have hP := persists_sp s
  cases i with
  | illegal08 | illegal10 | illegal18 | illegal20 | illegal28 | illegal30 | illegal38 | illegalCB | illegalD9
  | illegalDD | illegalED | illegalFD => exact hP.of_raiseFault h rfl
  | call | cnz | cz | cnc | cc | cpo | cpe | cp | cm | rst | ret | rnz | rz | rnc | rc | rpo | rpe | rp | rm | push
  | pushPsw | pop | popPsw | sphl => cases hsp
  | jnz | jz | jnc | jc | jpo | jpe | jp | jm => exact hP.of_jumpIf h rfl
  | hlt | jmp | pchl => exact hP.of_completeAt h rfl rfl
  | movRR | movRM | mviR => exact hP.of_completeValid h rfl fun _ => reg8Write_sp _ _ s
  | inrR | dcrR => exact hP.of_completeValid h rfl fun _ => s.commitKeepCy_sp _ _
  | stax | ldax | movMR | addR | adcR | subR | sbbR | anaR | xraR | oraR | cmpR =>
    exact hP.of_completeValid h rfl fun _ => rfl
  | lxi | inx | dcx => exact hP.of_complete h rfl (pairWrite_sp (of_decide_eq_false hsp) _ s)
  | _ => exact hP.of_complete h rfl rfl

/-! ## Flags -/

theorem persists_flag (f : FlagName) (s : State) : Persists (fun u => hostReadFlag f u = hostReadFlag f s) s :=
  ⟨rfl, fun _ _ h => h, fun _ h => h⟩

/-- The flags alone decide what a flag reads as. -/
theorem hostReadFlag_of_flags {s t : State} (h : t.flags = s.flags) (f : FlagName) :
    hostReadFlag f t = hostReadFlag f s := by
  cases f <;> simp only [hostReadFlag, h]

theorem FlagName.mem_all (f : FlagName) : f ∈ [FlagName.z, .s, .p, .cy, .ac] := by cases f <;> decide

/-- `Cy` alone is replaced. -/
theorem State.setCy_hostReadFlag {f : FlagName} (hf : f ∉ [FlagName.cy]) (s : State) (v : Bool) :
    hostReadFlag f (s.setCy v) = hostReadFlag f s := by
  cases f with
  | cy => exact absurd (List.mem_singleton_self _) hf
  | z | s | p | ac => rfl

/-- Every flag but `Cy` is replaced. -/
theorem State.commitKeepCy_hostReadFlag {f : FlagName} (hf : f ∉ [FlagName.z, .s, .p, .ac]) (s : State) (r : Reg8)
    (v : AluResult 8) : hostReadFlag f (s.commitKeepCy r v) = hostReadFlag f s := by
  cases f with
  | cy => rfl
  | z | s | p | ac => exact absurd (by decide) hf

theorem exec_hostReadFlag {i : Instr} {s t : State} {f : FlagName} (h : exec i s = .next t)
    (hf : f ∉ writtenFlags i) : hostReadFlag f t = hostReadFlag f s := by
  have hP := persists_flag f s
  cases i with
  | illegal08 | illegal10 | illegal18 | illegal20 | illegal28 | illegal30 | illegal38 | illegalCB | illegalD9
  | illegalDD | illegalED | illegalFD => exact hP.of_raiseFault h rfl
  | addR | adcR | subR | sbbR | anaR | xraR | oraR | cmpR | addM | adcM | subM | sbbM | anaM | xraM | oraM | cmpM | adi
  | aci | sui | sbi | ani | xri | ori | cpi | daa | popPsw => exact absurd f.mem_all hf
  | jnz | jz | jnc | jc | jpo | jpe | jp | jm => exact hP.of_jumpIf h rfl
  | cnz | cz | cnc | cc | cpo | cpe | cp | cm => exact hP.of_callIf h rfl fun _ => rfl
  | rnz | rz | rnc | rc | rpo | rpe | rp | rm => exact hP.of_returnIf h rfl rfl
  | hlt | jmp | pchl | call | rst | ret => exact hP.of_completeAt h rfl rfl
  | inrR | dcrR => exact hP.of_completeValid h rfl fun _ => s.commitKeepCy_hostReadFlag hf _ _
  | movRR | movRM | mviR =>
    exact hP.of_completeValid h rfl fun _ => hostReadFlag_of_flags (reg8Write_flags _ _ s) f
  | pop => exact hP.of_completeValid h rfl fun _ => hostReadFlag_of_flags (pairWrite_flags _ _ s) f
  | stax | ldax | movMR | push => exact hP.of_completeValid h rfl fun _ => rfl
  | inrM | dcrM => exact hP.of_complete h rfl (s.commitKeepCy_hostReadFlag hf .m _)
  | dad | rlc | rrc | ral | rar | stc | cmc => exact hP.of_complete h rfl (State.setCy_hostReadFlag hf _ _)
  | lxi | inx | dcx => exact hP.of_complete h rfl (hostReadFlag_of_flags (pairWrite_flags _ _ s) f)
  | _ => exact hP.of_complete h rfl rfl

end Sys2Proof.Machine

namespace Sys2Proof.Claims

open Sys2Proof.Machine

/-- Settles O17: a step is an instruction, and every write an instruction makes keeps the form. -/
theorem stepKeepsCanonicalForm : Obligations.StepKeepsCanonicalForm := fun _ _ inv h =>
  exec_inv inv (ready_and_exec_of_step h).2

/-- Settles O18: nothing is listed at reset. -/
theorem resetHasCanonicalForm : Obligations.ResetHasCanonicalForm := ⟨State.reset_mem_wf, Memory.wfBelow_nil 256⟩

/-- Settles O19: at reset every register, flag and pin is 0, and no byte of memory or of a port is listed. -/
theorem resetState : Obligations.ResetState :=
  ⟨fun r => by cases r <;> rfl, rfl, rfl, fun f => by cases f <;> rfl, Pins.low_get, fun _ => rfl,
    fun _ => rfl, rfl, rfl, rfl⟩

/-- Settles O56, instruction by instruction: what is stored goes to the listed addresses. -/
theorem memoryFrame : Obligations.MemoryFrame := fun _ _ _ _ inv h ha => exec_memRead1 inv h ha

/-- Settles O57, instruction by instruction: a write through a selector or a pair reaches the listed registers. -/
theorem registerFrame : Obligations.RegisterFrame := fun _ _ _ h => ⟨fun _ hm hr => exec_reg8Read h hm hr, exec_sp h⟩

/-- Settles O58, instruction by instruction: all flags are listed, or all but `Cy`, or `Cy` alone, or none is written. -/
theorem flagFrame : Obligations.FlagFrame := fun _ _ _ _ h hf => exec_hostReadFlag h hf

end Sys2Proof.Claims
end

section
/-!
PROOFS. The arithmetic primitives (O29, O30, O32) and the flag byte (O35).
-/

namespace Sys2Proof.Machine

/-! ## A sum with its carry, a difference with its borrow -/

/-- A value below `m` and a carry that make up a total are its remainder and its quotient. -/
theorem value_and_carry {m v total : Nat} {carry : Bool} (h : v + m * carry.toNat = total) (hv : v < m) :
    v = total % m ∧ (carry = true ↔ total ≥ m) := by
  subst h
  cases carry with
  | false => simpa [Nat.mod_eq_of_lt hv] using hv
  | true => simp [Nat.mod_eq_of_lt hv]

/-- A value below `m` and a borrow that make up a difference; `2 * m` keeps the minuend above what is subtracted. -/
theorem value_and_borrow {m v x y : Nat} {borrow : Bool} (h : v + y = x + m * borrow.toNat) (hv : v < m) :
    v = (x + 2 * m - y) % m ∧ (borrow = true ↔ x < y) := by
  cases borrow with
  | false =>
    rw [Bool.toNat_false, Nat.mul_zero] at h
    have shifted : x + 2 * m - y = v + m * 2 := by omega
    rw [shifted, Nat.add_mul_mod_self_left, Nat.mod_eq_of_lt hv]
    exact ⟨rfl, iff_of_false Bool.noConfusion (by omega)⟩
  | true =>
    rw [Bool.toNat_true, Nat.mul_one] at h
    have shifted : x + 2 * m - y = v + m := by omega
    rw [shifted, Nat.add_mod_right, Nat.mod_eq_of_lt hv]
    exact ⟨rfl, iff_of_true rfl (by omega)⟩

theorem toNat_decide {p : Prop} [Decidable p] : (decide p).toNat = if p then 1 else 0 := by
  by_cases h : p <;> simp [h]

/-! ## `Add8` and `Add16` (40_alu R132, R138) -/

theorem add8_sum (a b : Byte) (cin : Bool) :
    (add8 a b cin).value.toNat + 256 * (add8 a b cin).flags.cy.toNat = a.toNat + b.toNat + cin.toNat := by
  have hc := cin.toNat_le
  simp only [add8, flagsOf_cy, BitVec.toNat_ofNat, carryIn_eq_toNat, toNat_decide]
  split <;> omega

theorem add16_sum (x y : Word) (cin : Bool) :
    (add16 x y cin).value.toNat + 65536 * (add16 x y cin).flags.cy.toNat = x.toNat + y.toNat + cin.toNat := by
  have low := add8_sum (lowByte x) (lowByte y) cin
  have high := add8_sum (highByte x) (highByte y) (add8 (lowByte x) (lowByte y) cin).flags.cy
  simp only [lowByte_toNat, highByte_toNat] at low high
  simp only [add16, joinBytes_toNat]
  omega

theorem add8_ac_iff (a b : Byte) (cin : Bool) :
    (add8 a b cin).flags.ac = true ↔ a.toNat % 16 + b.toNat % 16 ≥ 16 := decide_eq_true_iff

/-! ## `Sub8`, `Cmp8` and `Sub16` (40_alu R133, R134, R139) -/

theorem sub8_difference (a b : Byte) (cin : Bool) :
    (sub8 a b cin).value.toNat + (b.toNat + cin.toNat) = a.toNat + 256 * (sub8 a b cin).flags.cy.toNat := by
  have hc := cin.toNat_le
  simp only [sub8, flagsOf_cy, BitVec.toNat_ofInt, carryIn_eq_toNat, toNat_decide]
  split <;> omega

theorem sub16_difference (x y : Word) (cin : Bool) :
    (sub16 x y cin).value.toNat + (y.toNat + cin.toNat) = x.toNat + 65536 * (sub16 x y cin).flags.cy.toNat := by
  have low := sub8_difference (lowByte x) (lowByte y) cin
  have high := sub8_difference (highByte x) (highByte y) (sub8 (lowByte x) (lowByte y) cin).flags.cy
  simp only [lowByte_toNat, highByte_toNat] at low high
  simp only [sub16, joinBytes_toNat]
  omega

theorem sub8_ac_iff (a b : Byte) (cin : Bool) : (sub8 a b cin).flags.ac = true ↔ a.toNat % 16 < b.toNat % 16 :=
  decide_eq_true_iff

/-- A difference of bytes is 0 when they are equal (40_alu R134). -/
theorem cmp8_z_iff (a b : Byte) : (cmp8 a b).z = true ↔ a = b := by
  have noBorrow : (sub8 a b false).value = a - b := (sub8_value a b false).trans (BitVec.sub_zero (a - b))
  have z : (cmp8 a b).z = decide (a - b = 0) := congrArg (fun r => decide (r = 0)) noBorrow
  rw [z, decide_eq_true_iff]
  bv_omega

/-! ## The flag byte (10_state R31, R32) -/

theorem unpackFlags_packFlagsWith (fixed : Byte) (f : Flags) : unpackFlags (packFlagsWith fixed f) = f := by
  simp only [unpackFlags, packFlagsWith_getLsbD]
  simp

/-- Two bytes agree under a mask when they agree at each bit of it. -/
theorem and_eq_and_of_bits {x y mask : Byte} (h : ∀ j < 8, mask.getLsbD j = true → x.getLsbD j = y.getLsbD j) :
    x &&& mask = y &&& mask := by
  apply BitVec.eq_of_getLsbD_eq
  intro j hj
  rw [BitVec.getLsbD_and, BitVec.getLsbD_and]
  cases hm : mask.getLsbD j with
  | false => rw [Bool.and_false, Bool.and_false]
  | true => rw [h j hj hm]

/-- Bits 7, 6, 4, 2 and 0 are the flags. -/
theorem packFlagsWith_unpackFlags (fixed v : Byte) :
    packFlagsWith fixed (unpackFlags v) &&& 0xD5#8 = v &&& 0xD5#8 := by
  apply and_eq_and_of_bits
  intro j hj
  rw [packFlagsWith_getLsbD]
  interval_cases j <;> simp [unpackFlags]

/-- Bits 5, 3 and 1 are those of the parameter. -/
theorem packFlagsWith_fixed (fixed : Byte) (f : Flags) :
    packFlagsWith fixed f &&& 0x2A#8 = fixed &&& 0x2A#8 := by
  apply and_eq_and_of_bits
  intro j hj
  rw [packFlagsWith_getLsbD]
  interval_cases j <;> simp

end Sys2Proof.Machine

namespace Sys2Proof.Claims

open Sys2Proof.Machine

/-- Settles O29: the value and the carry make up the sum. -/
theorem addPrimitive : Obligations.AddPrimitive := fun a b cin =>
  have ⟨value, carry⟩ := value_and_carry (add8_sum a b cin) (BitVec.isLt _)
  ⟨value, carry, add8_ac_iff a b cin, rfl⟩

/-- Settles O30: the value and the borrow make up the difference. -/
theorem subtractPrimitive : Obligations.SubtractPrimitive := fun a b cin =>
  have ⟨value, borrow⟩ := value_and_borrow (sub8_difference a b cin) (BitVec.isLt _)
  have ⟨_, less⟩ := value_and_borrow (sub8_difference a b false) (BitVec.isLt _)
  ⟨value.trans (by rw [Nat.sub_sub]), borrow, sub8_ac_iff a b cin, rfl, cmp8_z_iff a b, less⟩

/-- Settles O32: the carry of the low bytes goes into the high bytes, so the two sums are one, and so the differences. -/
theorem wordPrimitives : Obligations.WordPrimitives := fun x y cin =>
  have ⟨sum, carry⟩ := value_and_carry (add16_sum x y cin) (BitVec.isLt _)
  have ⟨difference, borrow⟩ := value_and_borrow (sub16_difference x y cin) (BitVec.isLt _)
  ⟨sum, carry, difference.trans (by rw [Nat.sub_sub]), borrow⟩

/-- Settles O35, bit by bit. -/
theorem flagByteRoundTrip : Obligations.FlagByteRoundTrip := fun fixed v f =>
  ⟨unpackFlags_packFlagsWith fixed f, packFlagsWith_unpackFlags fixed v, packFlagsWith_fixed fixed f, rfl⟩

end Sys2Proof.Claims
end

section
/-!
PROOFS. Instructions whose flags or stack byte are the spec's decisions: `INR` and `DCR` (O43), `DAD` (O45), the
transfers on the sign (O51), `PUSH PSW` (O53), `IN` and `HLT` (O55).
-/

namespace Sys2Proof.Machine

open Sys2Proof.Claims

/-! ## `DAD` in numbers (42_arithmetic R188): the 17-bit sum -/

theorem add16_value_eq (x y : Word) : (add16 x y false).value = BitVec.ofNat 16 (x.toNat + y.toNat) :=
  have ⟨sum, _⟩ := value_and_carry (add16_sum x y false) (BitVec.isLt _)
  BitVec.eq_of_toNat_eq (sum.trans (BitVec.toNat_ofNat _ 16).symm)

theorem add16_cy_eq (x y : Word) : (add16 x y false).flags.cy = decide (x.toNat + y.toNat > 0xFFFF) :=
  have ⟨_, carry⟩ := value_and_carry (add16_sum x y false) (BitVec.isLt _)
  Bool.eq_iff_iff.mpr (carry.trans decide_eq_true_iff.symm)

end Sys2Proof.Machine

namespace Sys2Proof.Claims

open Sys2Proof.Machine

/-- Settles O43: each form writes the result through its selector and commits every flag but `Cy`. -/
theorem incrementAndDecrement : Obligations.IncrementAndDecrement := fun _ _ hr =>
  have register := isRegister_of_ne_m hr
  ⟨runs_of_completeValid register rfl, runs_of_completeValid register rfl, runs_of_complete rfl, runs_of_complete rfl⟩

/-- Settles O45: `Add16` is the 17-bit sum of the words, its carry bit 16. -/
theorem doubleAdd : Obligations.DoubleAdd := fun s pair => by
  rw [← add16_value_eq, ← add16_cy_eq]
  exact runs_of_complete rfl

/-- Settles O51, by the shared rules of the transfers; `P` asks for a clear sign, `M` for a set one. -/
theorem signConditions : Obligations.SignConditions := fun s _ =>
  have plus := condHolds_p_iff s.flags
  ⟨runs_of_jumpIf rfl plus, runs_of_jumpIf rfl Iff.rfl, runs_of_callIf rfl plus, runs_of_callIf rfl Iff.rfl,
    runs_of_returnIf rfl plus, runs_of_returnIf rfl Iff.rfl⟩

/-- Settles O53: the status word is `A` over the flag byte. -/
theorem pushStatusWord : Obligations.PushStatusWord := fun _ => runs_of_complete rfl

/-- Settles O55: `IN` ends at the address after it, `HLT` at its own. -/
theorem inputAndHalt : Obligations.InputAndHalt := fun _ _ => ⟨runs_of_complete rfl, runs_of_completeAt rfl⟩

end Sys2Proof.Claims
end

section
/-!
PROOFS. The execution fault (O8, O9, O10, O12), the counters of a step (O13), its report (O21), the end of a run (O34).
-/

namespace Sys2Proof.Machine

open Sys2Proof.Claims

/-! ## The fetched instruction -/

theorem State.fetch_wellFormed (s : State) : s.fetch.wellFormed = true := decode_wellFormed _ _ _

theorem State.opcode_fetch (s : State) : s.fetch.opcode = s.memRead1 s.pc := opcode_decode _ _ _

theorem State.fetch_legal_iff (s : State) : s.fetch.legal = false ↔ s.memRead1 s.pc ∈ illegalBytes :=
  decode_legal_iff _ _ _

theorem State.fetch_legal {s : State} (h : s.memRead1 s.pc ∉ illegalBytes) : s.fetch.legal = true :=
  Bool.eq_true_of_not_eq_false (mt s.fetch_legal_iff.mp h)

theorem State.length_fetch (s : State) : s.fetch.length = 1 + extraBytes (s.memRead1 s.pc) :=
  congrArg (1 + ·) (length_operandBytes_decode _ _ _)

theorem State.fetch_eq_hlt_iff (s : State) : s.fetch = .hlt ↔ s.memRead1 s.pc = 0x76#8 := by
  constructor
  · intro h
    rw [← s.opcode_fetch, h]
    rfl
  · intro h
    rw [State.fetch, h]
    rfl

/-! ## The execution fault of an illegal byte (60_exceptions R262 to R265) -/

theorem faultRecord_of_illegal {i : Instr} (h : i.legal = false) (pc : Word) :
    faultRecord i .illegalOpcode pc = illegalRecord pc i.opcode := by
  rw [faultRecord, illegalRecord, diagnosticText, (instrText_eq_placeholder_iff i).mpr h]

theorem exec_of_illegal {i : Instr} (h : i.legal = false) (s : State) :
    exec i s = .next { s with engine := .faulted (illegalRecord s.pc i.opcode) } := by
  rw [exec_faults (.inl h), if_neg (by simp [h]), faultRecord_of_illegal h]
  rfl

/-- An illegal byte has no selector that could be refused. -/
theorem legal_of_not_wellFormed {i : Instr} (h : i.wellFormed = false) : i.legal = true := by
  cases i <;> first | rfl | cases h

theorem exec_of_not_wellFormed {i : Instr} (h : i.wellFormed = false) (s : State) :
    exec i s = .next { s with
      engine := .faulted ⟨s.pc, i.opcode, .invalidSelector, hexWord s.pc ++ ": " ++ instrText i⟩ } := by
  rw [exec_faults (.inr h), if_pos (legal_of_not_wellFormed h)]
  rfl

/-! ## A step from state Ready, by the byte at `pc` -/

theorem step_of_illegal {s : State} (ready : s.Ready) (h : s.memRead1 s.pc ∈ illegalBytes) :
    step s = .next { s with engine := .faulted (illegalRecord s.pc (s.memRead1 s.pc)) } := by
  rw [step_of_ready ready, exec_of_illegal (s.fetch_legal_iff.mpr h), s.opcode_fetch]

/-- A step at a legal byte leaves the engine Ready and counts. -/
theorem step_of_legal {s : State} (ready : s.Ready) (h : s.memRead1 s.pc ∉ illegalBytes) :
    ∃ t, step s = .next t ∧ t.Ready ∧ t.cycles = s.cycles + config.cycles (s.memRead1 s.pc) ∧ t.iter = s.iter + 1 := by
  obtain ⟨done, target, retired, engine, cycles, iter⟩ := exec_retires (State.fetch_legal h) s.fetch_wellFormed s
  refine ⟨_, (step_of_ready ready).trans retired, engine.trans ready, ?_, congrArg (· + 1) iter⟩
  rw [State.retire_cycles, cycles, Instr.cost, s.opcode_fetch]

theorem step_of_hlt {s : State} (ready : s.Ready) (h : s.memRead1 s.pc = 0x76#8) :
    step s = .next { s with cycles := s.cycles + config.cycles 0x76#8, iter := s.iter + 1 } := by
  rw [step_of_ready ready, s.fetch_eq_hlt_iff.mpr h]
  rfl

/-! ## What is reported, by the byte at `pc` (60_exceptions R260) -/

theorem report_of_ready {s : State} (ready : s.Ready) : report s = reportOf s.fetch s := by rw [report, ready]

theorem report_of_faulted {s : State} {record : FaultRecord} (h : s.engine = .faulted record) :
    report s = .fault record := by
  rw [report, h]

theorem report_of_illegal {s : State} (ready : s.Ready) (h : s.memRead1 s.pc ∈ illegalBytes) :
    report s = .fault (illegalRecord s.pc (s.memRead1 s.pc)) := by
  have illegal := s.fetch_legal_iff.mpr h
  rw [report_of_ready ready, reportOf, illegal, faultRecord_of_illegal illegal, s.opcode_fetch]

theorem report_of_legal {s : State} (ready : s.Ready) (h : s.memRead1 s.pc ∉ illegalBytes) :
    report s = if s.memRead1 s.pc = 0x76#8 then .halt else .ok (1 + extraBytes (s.memRead1 s.pc)) := by
  simp only [report_of_ready ready, reportOf, State.fetch_legal h, nextOffset, s.length_fetch, s.fetch_eq_hlt_iff]
  split <;> rfl

theorem hlt_notMem_illegalBytes : 0x76#8 ∉ illegalBytes := by decide

section
variable {s : State} (ready : s.Ready)
include ready

theorem report_eq_halt_iff : report s = .halt ↔ s.memRead1 s.pc = 0x76#8 := by
  by_cases illegal : s.memRead1 s.pc ∈ illegalBytes
  · rw [report_of_illegal ready illegal]
    exact iff_of_false nofun fun hlt => hlt_notMem_illegalBytes (hlt ▸ illegal)
  · rw [report_of_legal ready illegal]
    split
    next hlt => exact iff_of_true rfl hlt
    next other => exact iff_of_false nofun other

theorem report_eq_ok_iff (n : Nat) :
    report s = .ok n ↔
      n = 1 + extraBytes (s.memRead1 s.pc) ∧ s.memRead1 s.pc ≠ 0x76#8 ∧ s.memRead1 s.pc ∉ illegalBytes := by
  by_cases illegal : s.memRead1 s.pc ∈ illegalBytes
  · rw [report_of_illegal ready illegal]
    exact iff_of_false nofun fun ⟨_, _, legal⟩ => legal illegal
  · rw [report_of_legal ready illegal]
    split
    next hlt => exact iff_of_false nofun fun ⟨_, other, _⟩ => other hlt
    next other => simp [other, illegal, eq_comm]

theorem report_eq_fault_iff (r : FaultRecord) :
    report s = .fault r ↔ s.memRead1 s.pc ∈ illegalBytes ∧ r = illegalRecord s.pc (s.memRead1 s.pc) := by
  by_cases illegal : s.memRead1 s.pc ∈ illegalBytes
  · rw [report_of_illegal ready illegal]
    simp [illegal, eq_comm]
  · rw [report_of_legal ready illegal]
    exact iff_of_false (by split <;> nofun) fun ⟨h, _⟩ => illegal h

theorem step_eq_faulted_iff (r : FaultRecord) :
    step s = .next { s with engine := .faulted r } ↔
      s.memRead1 s.pc ∈ illegalBytes ∧ r = illegalRecord s.pc (s.memRead1 s.pc) := by
  by_cases illegal : s.memRead1 s.pc ∈ illegalBytes
  · rw [step_of_illegal ready illegal]
    simp [illegal, eq_comm]
  · obtain ⟨t, stepped, stillReady, -, -⟩ := step_of_legal ready illegal
    refine iff_of_false (fun faulted => ?_) fun ⟨h, _⟩ => illegal h
    cases stepped.symm.trans faulted
    cases stillReady

end

/-! ## The end of a run (70_reset section 5) -/

/-- A run that is not running after one step is so after every longer bound. -/
theorem run_succ_of_ended {s : State} {result : RunResult} (ended : ∀ u, result ≠ .running u)
    (h : run 1 s = result) (m : Nat) : run (m + 1) s = result := by
  rcases run_succ_cases 0 s with ⟨_, _, hr⟩ | ⟨halt, hr⟩ | ⟨_, fault, hr⟩
  · exact absurd (h.symm.trans hr) (ended _)
  · rw [run_of_halt halt, ← h, hr]
  · rw [run_of_fault fault, ← h, hr]

/-- A run ends at the first step that ends it. -/
theorem run_ended_iff {result : RunResult} (ended : ∀ u, result ≠ .running u) (k : Nat) (s : State) :
    run k s = result ↔ ∃ j u, j < k ∧ run j s = .running u ∧ run 1 u = result := by
  constructor
  · intro h
    induction k generalizing s with
    | zero => exact absurd h.symm (ended s)
    | succ k ih =>
      rcases run_succ_cases k s with ⟨_, ok, hr⟩ | ⟨halt, hr⟩ | ⟨_, fault, hr⟩
      · obtain ⟨j, u, hj, running, last⟩ := ih (stateAfter s) (hr ▸ h)
        exact ⟨j + 1, u, Nat.succ_lt_succ hj, (run_of_ok ok j).trans running, last⟩
      · exact ⟨0, s, k.succ_pos, rfl, (run_of_halt halt 0).trans (hr.symm.trans h)⟩
      · exact ⟨0, s, k.succ_pos, rfl, (run_of_fault fault 0).trans (hr.symm.trans h)⟩
  · rintro ⟨j, u, hj, running, last⟩
    obtain ⟨m, rfl⟩ := Nat.exists_eq_add_of_lt hj
    exact (run_add running (m + 1)).trans (run_succ_of_ended ended last m)

/-- A run that has not ended is in a Ready state, after as many steps as its bound. -/
theorem ready_and_iter_of_running {k : Nat} {s t : State} (ready : s.Ready) (h : run k s = .running t) :
    t.Ready ∧ t.iter = s.iter + k := by
  induction k generalizing s with
  | zero => cases h; exact ⟨ready, rfl⟩
  | succ k ih =>
    rcases run_succ_cases k s with ⟨n, ok, hr⟩ | ⟨_, hr⟩ | ⟨_, _, hr⟩
    · obtain ⟨-, -, legal⟩ := (report_eq_ok_iff ready n).mp ok
      obtain ⟨next, stepped, stillReady, -, iter⟩ := step_of_legal ready legal
      rw [hr, stateAfter_of_next stepped] at h
      obtain ⟨endReady, endIter⟩ := ih stillReady h
      exact ⟨endReady, by omega⟩
    · cases hr.symm.trans h
    · cases hr.symm.trans h

theorem run_one_endedNormally_iff {u : State} (ready : u.Ready) (t : State) :
    run 1 u = .endedNormally t ↔ u.memRead1 u.pc = 0x76#8 ∧
      t = { u with cycles := u.cycles + config.cycles 0x76#8, iter := u.iter + 1 } := by
  rcases run_succ_cases 0 u with ⟨_, ok, hr⟩ | ⟨halt, hr⟩ | ⟨_, fault, hr⟩
  · obtain ⟨-, other, -⟩ := (report_eq_ok_iff ready _).mp ok
    rw [hr]
    exact iff_of_false nofun fun ⟨hlt, _⟩ => other hlt
  · have hlt := (report_eq_halt_iff ready).mp halt
    rw [hr, stateAfter_of_next (step_of_hlt ready hlt)]
    simp [hlt, eq_comm]
  · obtain ⟨illegal, -⟩ := (report_eq_fault_iff ready _).mp fault
    rw [hr]
    exact iff_of_false nofun fun ⟨hlt, _⟩ => hlt_notMem_illegalBytes (hlt ▸ illegal)

theorem run_one_endedAbnormally_iff {u : State} (ready : u.Ready) (t : State) (r : FaultRecord) :
    run 1 u = .endedAbnormally t r ↔ u.memRead1 u.pc ∈ illegalBytes ∧ r = illegalRecord u.pc (u.memRead1 u.pc) ∧
      t = { u with engine := .faulted r } := by
  rcases run_succ_cases 0 u with ⟨_, ok, hr⟩ | ⟨halt, hr⟩ | ⟨_, fault, hr⟩
  · obtain ⟨-, -, legal⟩ := (report_eq_ok_iff ready _).mp ok
    rw [hr]
    exact iff_of_false nofun fun ⟨illegal, _⟩ => legal illegal
  · have hlt := (report_eq_halt_iff ready).mp halt
    rw [hr]
    exact iff_of_false nofun fun ⟨illegal, _⟩ => hlt_notMem_illegalBytes (hlt ▸ illegal)
  · obtain ⟨illegal, rfl⟩ := (report_eq_fault_iff ready _).mp fault
    rw [hr, stateAfter_of_next (step_of_illegal ready illegal)]
    simp only [illegal, RunResult.endedAbnormally.injEq, true_and]
    constructor
    · rintro ⟨rfl, rfl⟩
      exact ⟨rfl, rfl⟩
    · rintro ⟨rfl, rfl⟩
      exact ⟨rfl, rfl⟩

/-- `run_ended_iff` from a Ready state: the step that ends the run is taken in one too. -/
theorem run_ended_iff_of_ready {result : RunResult} {last : State → Prop} (ended : ∀ u, result ≠ .running u)
    (h : ∀ {u : State}, u.Ready → (run 1 u = result ↔ last u)) {s : State} (ready : s.Ready) (k : Nat) :
    run k s = result ↔ ∃ j u, j < k ∧ run j s = .running u ∧ last u := by
  have atLast {j : Nat} {u : State} (running : run j s = .running u) : run 1 u = result ↔ last u :=
    h (ready_and_iter_of_running ready running).1
  rw [run_ended_iff ended]
  exact exists_congr fun _ => exists_congr fun _ => and_congr_right fun _ => and_congr_right atLast

theorem run_endedNormally_iff {s : State} (ready : s.Ready) (k : Nat) (t : State) :
    run k s = .endedNormally t ↔ ∃ j u, j < k ∧ run j s = .running u ∧ u.memRead1 u.pc = 0x76#8 ∧
      t = { u with cycles := u.cycles + config.cycles 0x76#8, iter := u.iter + 1 } :=
  run_ended_iff_of_ready (fun _ running => by cases running) (run_one_endedNormally_iff · t) ready k

theorem run_endedAbnormally_iff {s : State} (ready : s.Ready) (k : Nat) (t : State) (r : FaultRecord) :
    run k s = .endedAbnormally t r ↔ ∃ j u, j < k ∧ run j s = .running u ∧ u.memRead1 u.pc ∈ illegalBytes ∧
      r = illegalRecord u.pc (u.memRead1 u.pc) ∧ t = { u with engine := .faulted r } :=
  run_ended_iff_of_ready (fun _ running => by cases running) (run_one_endedAbnormally_iff · t r) ready k

end Sys2Proof.Machine

namespace Sys2Proof.Claims

open Sys2Proof.Machine

/-- Settles O8: in state Faulted neither the step nor the report looks at anything but the record. -/
theorem faultedStepReportsAgain : Obligations.FaultedStepReportsAgain := fun _ _ h =>
  ⟨step_of_faulted h, report_of_faulted h⟩

/-- Settles O9, by the byte at `pc`. -/
theorem illegalOpcodeStep : Obligations.IllegalOpcodeStep := fun _ ready =>
  ⟨step_of_illegal ready, fun legal =>
    have ⟨t, stepped, stillReady, _⟩ := step_of_legal ready legal
    ⟨t, stepped, stillReady⟩⟩

/-- Settles O10: one fault, with the opcode byte of the instruction. -/
theorem illegalInstructionsFault : Obligations.IllegalInstructionsFault := fun s =>
  ⟨exec_of_illegal rfl s, exec_of_illegal rfl s, exec_of_illegal rfl s, exec_of_illegal rfl s, exec_of_illegal rfl s,
    exec_of_illegal rfl s, exec_of_illegal rfl s, exec_of_illegal rfl s, exec_of_illegal rfl s, exec_of_illegal rfl s,
    exec_of_illegal rfl s, exec_of_illegal rfl s⟩

/-- Settles O12: a legal instruction with allowed selectors retires, every other one takes the fault of its cause. -/
theorem everyInstructionCompletes : Obligations.EveryInstructionCompletes := by
  intro i s
  refine ⟨fun wellFormed => ?_, fun notAllowed => exec_of_not_wellFormed notAllowed s⟩
  cases legal : i.legal with
  | true =>
    obtain ⟨done, target, retired, engine, -, -⟩ := exec_retires legal wellFormed s
    exact ⟨_, retired, fun _ => engine, nofun⟩
  | false => exact ⟨_, exec_of_illegal legal s, nofun, fun _ => rfl⟩

/-- Settles O13, by the byte at `pc`: a legal one counts and leaves the engine Ready, an illegal one changes the engine
alone. -/
theorem countersAccumulate : Obligations.CountersAccumulate := by
  intro s t h
  obtain ⟨ready, -⟩ := ready_and_exec_of_step h
  by_cases illegal : s.memRead1 s.pc ∈ illegalBytes
  · cases h.symm.trans (step_of_illegal ready illegal)
    exact ⟨nofun, fun _ => ⟨rfl, rfl⟩⟩
  · obtain ⟨t', stepped, stillReady, cycles, iter⟩ := step_of_legal ready illegal
    cases h.symm.trans stepped
    have notPending := faultPending_of_ready stillReady
    exact ⟨fun _ => ⟨cycles, iter⟩, fun pending => nomatch notPending.symm.trans pending⟩

/-- Settles O21: each report, and the faulting step, is characterised by the byte at `pc`. -/
theorem stepReports : Obligations.StepReports := by
  intro s ready
  refine ⟨report_eq_halt_iff ready, report_eq_ok_iff ready,
    fun r => (report_eq_fault_iff ready r).trans (step_eq_faulted_iff ready r).symm, fun r faulted => ?_⟩
  obtain ⟨illegal, rfl⟩ := (report_eq_fault_iff ready r).mp faulted
  have placeholder : (disassemble s s.pc).text = "NOT IMPLEMENTED" :=
    (instrText_eq_placeholder_iff _).mpr (s.fetch_legal_iff.mpr illegal)
  rw [placeholder]
  rfl

/-- Settles O34: a run ends at the first step that ends it, and up to there it is in a Ready state. -/
theorem runEnds : Obligations.RunEnds := by
  intro s k ready
  refine ⟨run_endedNormally_iff ready k, run_endedAbnormally_iff ready k, fun t => ready_and_iter_of_running ready,
    fun t r ended => ?_⟩
  obtain ⟨_, u, -, -, -, -, rfl⟩ := (run_endedAbnormally_iff ready k t r).mp ended
  exact ⟨congrArg RunResult.final ended, step_of_faulted rfl⟩

end Sys2Proof.Claims
end
